-- ==== Sys2Proof/Word.lean ====
section
/-! DEFINITION. Word.lean: the word types of the RPS-648 model. The part computes with exact integers (R1), so quantities are
`Nat` and `Int`; bit vectors stand only where the spec gives bytes of a frame or a wrapping count. -/
namespace Sys2Proof

/-- One byte of a Management Port or Unit Link frame. -/
abbrev Byte := BitVec 8

/-- Part time: a 32-bit count of milliseconds since power-on reset, wrapping to 0 (R2). -/
abbrev PartTime := BitVec 32

/-- A running timer's remaining time in its own unit; `none` is a stopped timer. -/
abbrev Timer := Option Nat

end Sys2Proof
end

