-- ==== Sys2Proof/Syntax.lean ====
section
/-! DEFINITION. Syntax.lean: the commands of the RPS-648, one constructor per row of spec/opcode_table.json. A row is one whole,
indivisible step of the part: an event of a block, or a host request taken from the Management Port. The operands are what the
step takes from outside the part: analog readings, received characters, the bytes of a request. -/
namespace Sys2Proof

/-- One uncorrected reading of every wired quantity, before the SFE limits it (R50), in the units of the sense frame. -/
structure RawFrame where
  /-- bus voltage, 10 mV -/
  vbus : Int
  /-- bus load current, 0.1 A -/
  iload : Int
  /-- module voltages, 10 mV -/
  vbm : Vector Int 4
  /-- module currents, 0.1 A, positive when discharging -/
  ibm : Vector Int 4
  /-- module temperatures, 1 °C -/
  tbm : Vector Int 4
deriving DecidableEq, Repr

/-- One sample of a leak channel (R141): the conductance in µS and the loop resistance in 0.1 Ω, as measured. -/
structure LeakReading where
  conductance : Nat
  loop : Nat
deriving DecidableEq, Repr

/-- The three samples of a bit that decide its value, at sample ticks 7, 8 and 9 (R157). -/
structure BitSamples where
  t7 : Bool
  t8 : Bool
  t9 : Bool
deriving DecidableEq, Repr

/-- One received character of the Unit Link (R155): start bit, eight data bits least significant first, mark bit, stop bit,
each by its deciding samples. -/
structure LineChar where
  start : BitSamples
  data : Vector BitSamples 8
  mark : BitSamples
  stop : BitSamples
deriving DecidableEq, Repr

/-- One received character of the Management Port (R178): start bit, eight data bits least significant first and stop bit, each by
its deciding samples. -/
structure PortChar where
  start : BitSamples
  data : Vector BitSamples 8
  stop : BitSamples
deriving DecidableEq, Repr

/-- A character whose every sample is 0, a stop bit decided 0 among them: what a broken line gives (R178). -/
def PortChar.broken : PortChar :=
  ⟨⟨false, false, false⟩, Vector.replicate 8 ⟨false, false, false⟩, ⟨false, false, false⟩⟩

/-- The cause of jabber in an answer (R161), in the order of the UNIT_QUIET notice (R201). -/
inductive JabberCause where
  | length | activity
deriving DecidableEq, Repr

/-- The five blocks an evaluation window completion is delivered to (R54). -/
inductive WindowBlock where
  | brc | ldm | seq | bmn | rsv
deriving DecidableEq, Repr

/-- The commands. A host request carries its tag and its payload bytes exactly as its frame does (R179), so that every payload
the port can receive, of any length, is a command. An event row carries what the part reads from outside at that event. -/
inductive Instr where
  /-- POWER_ON_RESET (R197). -/
  | powerOnReset
  /-- SENSE_FRAME (R52): 1 ms has passed and a frame of readings completes. -/
  | senseFrame (frame : RawFrame)
  /-- BASELINE_END (R83). -/
  | baselineEnd
  /-- SETTLE_END (R84). -/
  | settleEnd
  /-- MEASURE_END (R84 to R86). -/
  | measureEnd
  /-- RELEASE_SETTLE_END (R86). -/
  | releaseSettleEnd
  /-- TEST_LOAD_OFF_OWED_PLACED (R86). -/
  | testLoadOffOwedPlaced
  /-- EVALUATION_WINDOW_COMPLETION (R54); `order` is the order in which the five blocks take the event. -/
  | evaluationWindowCompletion (order : List WindowBlock)
  /-- ZERO_CROSSING (R58): an edge on phase L(phase+1) with the capture counter run on to `counter` µs. -/
  | zeroCrossing (phase : Fin 3) (counter : Nat)
  /-- LOSS_LIMIT_EXPIRY (R61). -/
  | lossLimitExpiry (phase : Fin 3)
  /-- RETRY_DELAY_EXPIRY (R39). -/
  | retryDelayExpiry (module : Fin 6)
  /-- RUN_TIME_SECOND (R41): one second has passed for the module in ONLINE or DERATED. -/
  | runTimeSecond (module : Fin 6)
  /-- SHED_SETTLE_EXPIRY (R96). -/
  | shedSettleExpiry
  /-- STABLE_TIMER_EXPIRY (R98). -/
  | stableTimerExpiry
  /-- SEQ_JUDGE_SLOT (R122). -/
  | seqJudgeSlot
  /-- AWAIT_TIMER_EXPIRY (R124). -/
  | awaitTimerExpiry
  /-- SETTLE_TIMER_EXPIRY (R125). -/
  | settleTimerExpiry
  /-- RESTORE_SETTLE_EXPIRY (R133). -/
  | restoreSettleExpiry
  /-- LEAK_SAMPLE (R143): one sample period of 10 ms, with the reading of every channel. -/
  | leakSample (readings : Vector LeakReading 8)
  /-- ISOLATION_DELAY_EXPIRY (R151). -/
  | isolationDelayExpiry (zone : Fin 8)
  /-- LINE_GRANT (R173). -/
  | lineGrant
  /-- CALL_END (R159): the stop bit of the call's last character. -/
  | callEnd
  /-- RESPONSE_TIMEOUT (R159). -/
  | responseTimeout
  /-- ANSWER_COMPLETE (R160): the answer frame has ended, with the characters received. -/
  | answerComplete (chars : List LineChar)
  /-- ANSWER_GAP_TIMEOUT (R159): the line rested more than 2 character times inside the answer. -/
  | answerGapTimeout
  /-- JABBER_IN_ANSWER (R161). -/
  | jabberInAnswer (cause : JabberCause)
  /-- LINK_JABBER (R161). -/
  | linkJabber
  /-- LINE_IDLE (R159): the line has rested 2 character times. -/
  | lineIdle
  /-- POLL_CYCLE_EXPIRY (R166). -/
  | pollCycleExpiry
  /-- PASS_THROUGH_NOT_SENT (R185). -/
  | passThroughNotSent
  /-- HOST_SILENT (R190): the host-silence timer expires. -/
  | hostSilent
  /-- COMMIT_COMPLETION (R195); `imageMatches` is what the read-back finds. -/
  | commitCompletion (imageMatches : Bool)
  /-- REQUEST_CRC_DISCARD (R180): the port receives these characters, among them the last of a frame whose CRC does not match. -/
  | requestCrcDiscard (chars : List PortChar)
  /-- REQUEST_OVERRUN (R181). -/
  | requestOverrun
  /-- REQUEST_GAP_ABANDON (R180): the port receives these characters, none where the command names none, and then no more for more
  than 2 ms. -/
  | requestGapAbandon (chars : List PortChar := [])
  /-- REPLY_SENT (R181). -/
  | replySent
  /-- UNKNOWN_KIND (R182): a complete frame of a kind outside the catalogue. -/
  | unknownKind (kind : Byte) (tag : Byte) (payload : List Byte)
  | identify (tag : Byte) (payload : List Byte)
  | getStatus (tag : Byte) (payload : List Byte)
  | readEstimate (tag : Byte) (payload : List Byte)
  | setLevel (tag : Byte) (payload : List Byte)
  | readSetting (tag : Byte) (payload : List Byte)
  | writeSetting (tag : Byte) (payload : List Byte)
  | commitSettings (tag : Byte) (payload : List Byte)
  | revertSettings (tag : Byte) (payload : List Byte)
  | restart (tag : Byte) (payload : List Byte)
  | readSlot (tag : Byte) (payload : List Byte)
  | writeSlot (tag : Byte) (payload : List Byte)
  /-- SLOT_POWER_ON (R13): a SLOT_POWER request; its second payload byte says ON. -/
  | slotPowerOn (tag : Byte) (payload : List Byte)
  /-- SLOT_POWER_OFF (R16): a SLOT_POWER request; its second payload byte says OFF. -/
  | slotPowerOff (tag : Byte) (payload : List Byte)
  | slotClear (tag : Byte) (payload : List Byte)
  | readZones (tag : Byte) (payload : List Byte)
  | zoneRelease (tag : Byte) (payload : List Byte)
  | planBegin (tag : Byte) (payload : List Byte)
  | planSteps (tag : Byte) (payload : List Byte)
  | planStart (tag : Byte) (payload : List Byte)
  | planPause (tag : Byte) (payload : List Byte)
  | planResume (tag : Byte) (payload : List Byte)
  | planCancel (tag : Byte) (payload : List Byte)
  | readPlan (tag : Byte) (payload : List Byte)
  | readRectifier (tag : Byte) (payload : List Byte)
  | rectifierEnable (tag : Byte) (payload : List Byte)
  | rectifierDisable (tag : Byte) (payload : List Byte)
  | rectifierClear (tag : Byte) (payload : List Byte)
  | readBattery (tag : Byte) (payload : List Byte)
  | startImpedanceTest (tag : Byte) (payload : List Byte)
  | readLeak (tag : Byte) (payload : List Byte)
  | writeLeak (tag : Byte) (payload : List Byte)
  | leakAck (tag : Byte) (payload : List Byte)
  | readPollTable (tag : Byte) (payload : List Byte)
  | writePollTable (tag : Byte) (payload : List Byte)
  | readUnit (tag : Byte) (payload : List Byte)
  | unitUnquiet (tag : Byte) (payload : List Byte)
  | linkReset (tag : Byte) (payload : List Byte)
  | passThrough (tag : Byte) (payload : List Byte)
  | fetchNotices (tag : Byte) (payload : List Byte)
  /-- ANSWER_FIRST_CHARACTER (R159). -/
  | answerFirstCharacter
  /-- CHARACTER_OUTSIDE_TRANSACTION (R160). -/
  | characterOutsideTransaction
  /-- REQUEST_FRAMING_ERROR (R178, R180): the port receives these characters, among them one whose stop bit is decided 0, which is
  the only one where the command names none. -/
  | requestFramingError (chars : List PortChar := [PortChar.broken])
  /-- REQUEST_LENGTH_ABANDON (R180): the port receives these characters, among them a length byte above 240. -/
  | requestLengthAbandon (chars : List PortChar)
deriving DecidableEq, Repr

end Sys2Proof
end

