-- ==== Sys2Proof/Config.lean ====
section
/-! DEFINITION. Config.lean: what the spec leaves to the part itself. Each constant here is opaque: it has no body, so no proof
can lean on a value of it, and a statement that holds of the model holds whatever the value is. -/
namespace Sys2Proof

/-- The design revision IDENTIFY reports (R186 gives its range, 0 to 255, and no value). Log entry 3. -/
opaque Config.designRevision : Byte

/-- The Management Port protocol version IDENTIFY reports (R186 gives its range and no value). Log entry 3. -/
opaque Config.protocolVersion : Byte

/-- What the last-loop-resistance field records for a loop reading above its range of 65,535 and not above 10 kΩ, as a
function of the reading: R138 gives the field 0 to 65,535 (0.1 Ω) or OPEN, R141 records OPEN only above 10 kΩ (100,000 units),
and no rule says what a reading between the two records. Log entry 4. -/
opaque Config.overrangeLoop : Nat → BitVec 16

/-- The bytes of a value that its field of a reply or a notice cannot hold, as a function of the value (for example a ΔV of
40,000 in the signed two-byte field of R201): the spec states the value exactly and the field's size, and not what the field
then reads. Log entry 5. -/
opaque Config.outOfFormat : Int → BitVec 32

/-- The byte that stands at a place of a reply's field which the spec gives a size and leaves unused (the slot numbers of a step
record after its slot count, the entries of the admitted set after the first k), as a function of the place. Log entry 42. -/
opaque Config.unusedByte : Nat → Byte

end Sys2Proof
end

