-- ==== Sys2Proof/Machine/State.lean ====
section
/-! DEFINITION. Machine/State.lean: everything the spec gives the RPS-648 to hold, block by block, as plain data; the reasons a
step can stop; and the state right after power-on reset. Quantities are `Nat` or `Int` in the units of the spec's table of
quantities (R1 and the table before it); lists of names are inductives in the spec's own order, so that a value's place in its
inductive is its code on the wire (R200). -/
namespace Sys2Proof.Machine

/-! ## Names -/

/-- The operating level (R192). -/
inductive Level where
  | configure | supervise
deriving DecidableEq, Repr

/-- The slot states (R3, section 1.2). -/
inductive SlotState where
  | vacant | off | energizing | on | shed | isolated | faulted
deriving DecidableEq, Repr

/-- Why a slot was shed (R3). -/
inductive ShedReason where
  | bridging | depleted | host
deriving DecidableEq, Repr

/-- The power state a sled reports (R3, R204). -/
inductive UnitPower where
  | off | starting | ready | fault
deriving DecidableEq, Repr

/-- The reasons an admission is refused for, in the order of R184 (R13). -/
inductive RefusalReason where
  | level | bridging | state | link | zoneIsolated | zoneWet | capacity | ramp | coverage | queue
deriving DecidableEq, Repr

/-- Who asks for an admission (R12). -/
inductive AdmissionOrigin where
  | plan | restore | host
deriving DecidableEq, Repr

/-- The rectifier states (R32). -/
inductive RectifierState where
  | absent | standby | online | derated | inputLost | faulted | lockedOut
deriving DecidableEq, Repr

/-- The retry phases of a FAULTED rectifier (R32, section 2.4). -/
inductive RetryPhase where
  | delay | due | enabling | trial
deriving DecidableEq, Repr

/-- The Redundancy setting (R33). -/
inductive Redundancy where
  | none | nPlus1
deriving DecidableEq, Repr

/-- The phase states of the AC Line Monitor (section 3.4). -/
inductive PhaseState where
  | present | outOfTolerance | lost
deriving DecidableEq, Repr

/-- The shelf AC states (R64). -/
inductive AcState where
  | good | partialInput | lost
deriving DecidableEq, Repr

/-- The LineFrequency setting (R59). -/
inductive LineFrequency where
  | hz50 | hz60
deriving DecidableEq, Repr

/-- The battery module states, in the order of R67, which is that of their codes (log entry 44). -/
inductive BatteryState where
  | absent | online | testing | depleted | faulted
deriving DecidableEq, Repr

/-- The causes a BATTERY_STATE notice names (R79). -/
inductive BatteryCause where
  | present | missing | reported | temperature | cleared | reserve | cutoff | grid | testStart | testEnd
deriving DecidableEq, Repr

/-- The phases of the impedance test context (R81). -/
inductive TestPhase where
  | idle | baseline | loading | settle | measure | releasing | releaseSettle | closing
deriving DecidableEq, Repr

/-- The causes an impedance test is aborted for, in the order of R87. -/
inductive AbortCause where
  | bridge | ac | fault | missing | callFailed | queue | releaseFailed | restart
deriving DecidableEq, Repr

/-- The outcome of an impedance test (R201). -/
inductive TestOutcome where
  | stored | inconclusive | aborted
deriving DecidableEq, Repr

/-- The pending result of an impedance test (R81, R85). -/
inductive PendingResult where
  | stored (rNew : Nat)
  | inconclusive
deriving DecidableEq, Repr

/-- The bridge states (R90). -/
inductive BridgeState where
  | grid | bridging | recovering | depleted
deriving DecidableEq, Repr

/-- The causes a BRIDGE_STATE notice names, in the order of R102. -/
inductive BridgeCause where
  | acLost | load | discharge | inputSufficient | inputInsufficient | depleted | stable
deriving DecidableEq, Repr

/-- The use an estimate is made for (R104, R109). -/
inductive EstimateKind where
  | coverage | bridging
deriving DecidableEq, Repr

/-- What a plan step waits for (R114). -/
inductive Await where
  | none | ack | ready
deriving DecidableEq, Repr

/-- What the sequencer does when the await wait runs out (R114). -/
inductive OnTimeout where
  | skip | hold
deriving DecidableEq, Repr

/-- The sequencer states (R119). -/
inductive SeqState where
  | idle | running | awaiting | settling | held | paused | restoring
deriving DecidableEq, Repr

/-- Why the sequencer is HELD (R119). -/
inductive HoldReason where
  | level | bridging | capacity | ramp | coverage | queue | link | readyTimeout | hostSilent
deriving DecidableEq, Repr

/-- The phases of a restore run (R132); `admitNext` is its ADMIT. -/
inductive RestorePhase where
  | admitNext | held | awaitAck | settle
deriving DecidableEq, Repr

/-- The leak sensor kinds (R138). -/
inductive LeakKind where
  | rope | spot
deriving DecidableEq, Repr

/-- The isolation policy of a leak channel (R138, R150). -/
inductive LeakPolicy where
  | alarm | isolate | isolateDelayed
deriving DecidableEq, Repr

/-- How an open sensor counts (R138, R149). -/
inductive OpenPolicy where
  | asDry | asWet
deriving DecidableEq, Repr

/-- The excitation pulse width (R138, R141). -/
inductive PulseWidth where
  | w3of16 | w1of16
deriving DecidableEq, Repr

/-- The leak channel states (R138, section 7.3). -/
inductive LeakState where
  | dry | suspect | confirmed | latched | openFault | disabled
deriving DecidableEq, Repr

/-- The class of a run of leak samples (R138, R143). -/
inductive RunClass where
  | wet | dry | openLoop
deriving DecidableEq, Repr

/-- The class of one leak sample (R142). -/
inductive SampleClass where
  | openLoop | wet | dry | ambig
deriving DecidableEq, Repr

/-- What a LEAK_STATE notice gives as its cause (R148, R201). -/
inductive LeakCause where
  | sample | ack | write
deriving DecidableEq, Repr

/-- A unit on the Unit Link: its kind and its position (R162 and the address table of the scope chapter). -/
inductive UnitId where
  | rectifier (k : Fin 6)
  | battery (i : Fin 4)
  | slot (n : Fin 48)
deriving DecidableEq, Repr

/-- A unit's presence (R162, R205). -/
inductive Presence where
  | unknown | present | missing | quiet
deriving DecidableEq, Repr

/-- The line states of the Unit Link (R159). -/
inductive LineState where
  | idle | call | wait | answer | guarded
deriving DecidableEq, Repr

/-- The command calls that travel in the Command Queues (R158, R169). -/
inductive CommandKind where
  | powerOn | powerOff | enable | disable | testLoadOn | testLoadOff
deriving DecidableEq, Repr

/-- The block that placed a command (R169). -/
inductive Origin where
  | ldm | rsv | bmn
deriving DecidableEq, Repr

/-- How a command completes (R172). -/
inductive CallOutcome where
  | acknowledged | failedNak | failedRetries | failedQuiet | withdrawn
deriving DecidableEq, Repr

/-- The ArbiterStrategy setting (R173). -/
inductive ArbiterStrategy where
  | scheduleFirst | commandsFirst | pollHold
deriving DecidableEq, Repr

/-- The MgmtBitRate setting (R178). -/
inductive BitRate where
  | b115200 | b230400 | b460800 | b921600
deriving DecidableEq, Repr

/-- The blocks that post notices, in the order of R188. -/
inductive Block where
  | mgp | nq | lvs | sfe | acm | rsv | bmn | brc | ldm | seq | lkm | ulc
deriving DecidableEq, Repr

/-- The notice kinds, in the order of the table of R188. -/
inductive NoticeKind where
  | slotFoundOn | slotFault | slotOffReported
  | overdraw
  | powerOnFailed | powerOffFailed
  | zoneIsolated | zoneReleased
  | rectifierState | rectifierCallFailed
  | senseSaturated
  | phaseState | acState
  | batteryState | impedanceResult | testReleaseFailed
  | bridgeState | shedDone | uncoverable
  | planStarted | planDone | planCancelled
  | stepSlotSkipped | stepTimeout | seqHold | restoreDone
  | leakState | zoneWet | isolationPending | isolationCancelled
  | unitPresence | unitQuiet | linkJabber | unitEvent | eventNoise
  | hostSilent
  | started | commitDone | settingsDefaulted
deriving DecidableEq, Repr

/-- The reply status codes, in the order of R184. -/
inductive Status where
  | ok | unknownKind | badLength | outOfRange | wrongLevel | state | busy | refused | stillWet | timeout
deriving DecidableEq, Repr

/-! ## Plans (R114, R115) -/

/-- One step of a plan (R114). -/
structure PlanStep where
  slots : List (Fin 48)
  settleMs : Nat
  await : Await
  readyTimeoutMs : Nat
  onTimeout : OnTimeout
deriving DecidableEq, Repr

/-- A plan: the id the host chose and its steps (R114). -/
structure Plan where
  id : BitVec 16
  steps : List PlanStep
deriving DecidableEq, Repr

/-- A plan buffer the host writes (R115): a FILLING buffer keeps each index written or unwritten. -/
inductive PlanBuffer where
  | empty
  | filling (id : BitVec 16) (steps : List (Option PlanStep))
  | ready (plan : Plan)
deriving DecidableEq, Repr

/-! ## Settings (R3, R138, R165, section 10.2) -/

/-- The settings part of a slot record (R3). -/
structure SlotSettings where
  allocation : Nat
  inrush : Nat
  zone : Fin 8
  cls : Nat
  rank : Nat
deriving DecidableEq, Repr

/-- The settings part of a leak channel record (R138). The zone set holds bit z for zone Zz, as R205 carries it. -/
structure LeakSettings where
  enabled : Bool
  kind : LeakKind
  zoneSet : BitVec 8
  policy : LeakPolicy
  openPolicy : OpenPolicy
  wetThreshold : Nat
  dryThreshold : Nat
  wetCount : Nat
  dryCount : Nat
  openCount : Nat
  isolateDelayMs : Nat
  pulseWidth : PulseWidth
  rlead : Nat
  rpm : Nat
  ropeLengthCm : Nat
deriving DecidableEq, Repr

/-- An entry of the Poll Table (R165). -/
inductive PollEntry where
  | unit (u : UnitId)
  | eventRound
deriving DecidableEq, Repr

/-- The settings, as the working copy and the stored image each hold them (R194, R195). -/
structure Settings where
  lineFrequency : LineFrequency
  halfPeriodTolerancePct : Nat
  phaseStableCount : Nat
  rectifierRating : Vector Nat 6
  rectifierFeed : Vector (Fin 3) 6
  redundancy : Redundancy
  retryLimit : Nat
  retryDelayMs : Nat
  retryWindowS : Nat
  headroomW : Nat
  coverageRequired : Bool
  rampCeilingW : Nat
  rampDecayW : Nat
  batteryCapacity : Vector Nat 4
  reservePct : Nat
  defaultR : Nat
  testCurrentA : Nat
  testMinSocPct : Nat
  holdupRequiredS : Nat
  vcutModule : Nat
  efficiency : Nat
  dischargeThresh : Nat
  acStableMs : Nat
  shedSettleMs : Nat
  autoRestore : Bool
  restoreSettleMs : Nat
  autoStartPlan : Bool
  pollCycleMs : Nat
  arbiterStrategy : ArbiterStrategy
  responseTimeoutCode : Nat
  cmdRetries : Nat
  linkDivN : Nat
  linkDivK : Nat
  mgmtBitRate : BitRate
  hostSilenceS : Nat
  startLevel : Level
  slots : Vector SlotSettings 48
  leaks : Vector LeakSettings 8
  pollTable : List PollEntry
  storedPlan : PlanBuffer
deriving DecidableEq, Repr

/-- The 58 units of the Unit Table in ascending address order (R162). -/
def allUnits : List UnitId :=
  (List.finRange 6).map .rectifier ++ (List.finRange 4).map .battery ++ (List.finRange 48).map .slot

/-- The default Poll Table (R165): the 58 addresses in ascending order and one EVENT_ROUND marker. -/
def defaultPollTable : List PollEntry := allUnits.map .unit ++ [.eventRound]

/-- The defaults of a leak channel (R138): channel c covers zone Zc. -/
def LeakSettings.default (c : Fin 8) : LeakSettings where
  enabled := false
  kind := .rope
  zoneSet := BitVec.ofNat 8 (2 ^ c.val)
  policy := .isolate
  openPolicy := .asDry
  wetThreshold := 50
  dryThreshold := 20
  wetCount := 20
  dryCount := 100
  openCount := 50
  isolateDelayMs := 1000
  pulseWidth := .w3of16
  rlead := 40
  rpm := 120
  ropeLengthCm := 1500

/-- The default of every setting (the settings table of section 10.2, R29, R91, R136, R138, R175). -/
def Settings.default : Settings where
  lineFrequency := .hz50
  halfPeriodTolerancePct := 10
  phaseStableCount := 20
  rectifierRating := Vector.replicate 6 3000
  rectifierFeed := #v[0, 1, 2, 0, 1, 2]
  redundancy := .nPlus1
  retryLimit := 3
  retryDelayMs := 5000
  retryWindowS := 60
  headroomW := 500
  coverageRequired := true
  rampCeilingW := 6000
  rampDecayW := 500
  batteryCapacity := Vector.replicate 4 8000
  reservePct := 10
  defaultR := 30
  testCurrentA := 200
  testMinSocPct := 50
  holdupRequiredS := 180
  vcutModule := 4200
  efficiency := 243
  dischargeThresh := 50
  acStableMs := 3000
  shedSettleMs := 300
  autoRestore := true
  restoreSettleMs := 2000
  autoStartPlan := false
  pollCycleMs := 50
  arbiterStrategy := .scheduleFirst
  responseTimeoutCode := 1
  cmdRetries := 2
  linkDivN := 6
  linkDivK := 0
  mgmtBitRate := .b115200
  hostSilenceS := 0
  startLevel := .supervise
  slots := Vector.replicate 48 ⟨0, 0, 0, 0, 0⟩
  leaks := Vector.ofFn LeakSettings.default
  pollTable := defaultPollTable
  storedPlan := .empty

/-! ## Management Port and Notice Queue (R178 to R191) -/

/-- A host request as its frame carries it (R179). -/
structure Request where
  kind : Byte
  tag : Byte
  payload : List Byte
deriving DecidableEq, Repr

/-- The pending-request buffer (R181): free, holding a request not yet taken, or holding a PASS_THROUGH whose reply is
deferred (R185). -/
inductive PendingRequest where
  | free
  | waiting (r : Request)
  | deferred (r : Request)
deriving DecidableEq, Repr

/-- The Management Port's state (section 9, R191). -/
structure Mgp where
  /-- the receive assembly's bytes; empty is HUNTING (R180) -/
  assembly : List Byte
  pending : PendingRequest
  /-- the reply frame being sent, byte for byte (R183) -/
  reply : Option (List Byte)
  /-- the bits of the reply being sent, in the order they go onto the line (R178, R183); empty when none is sent -/
  sending : List Bool
  crcDiscards : Nat
  portOverrun : Bool
  /-- the host-silence timer, ms remaining (R190) -/
  silenceTimer : Timer
  hostSilent : Bool
  /-- HOST_SILENT as it stood before the request now handled cleared it (R187, R190) -/
  wasSilent : Bool
  /-- the bit rate in force on the line, which follows MgmtBitRate after a reply (R178) -/
  bitRate : BitRate
  /-- an accepted RESTART takes effect when its reply has been sent (R182, R199) -/
  restartDue : Bool
deriving DecidableEq, Repr

/-- A notice record (R188). -/
structure Notice where
  stamp : PartTime
  kind : NoticeKind
  index : Nat
  data : List Byte
deriving DecidableEq, Repr

/-- The Notice Queue with its ATTN# output (R188). -/
structure Nq where
  notices : List Notice
  lost : Bool
  /-- ATTN# asserted (pulled low) -/
  attn : Bool
deriving DecidableEq, Repr

/-! ## Level and Settings (section 10) -/

/-- A commit in flight (R195): the copy taken, and whether the default Poll Table was applied after it was taken. -/
structure Commit where
  copy : Settings
  defaultApplied : Bool
deriving DecidableEq, Repr

/-- Level and Settings. The stored image is `none` while its validity mark is invalid (R195): an invalid image is never read. -/
structure Lvs where
  level : Level
  settings : Settings
  image : Option Settings
  dirty : Bool
  commit : Option Commit
  /-- the start-up sequence is in progress (R197) -/
  startingUp : Bool
  /-- the settings were defaulted at this start-up (R198) -/
  defaulted : Bool
  /-- SUPERVISE has been entered since power-on reset (R135, R193) -/
  supervised : Bool
deriving DecidableEq, Repr

/-! ## Sense Front-End (R50 to R57) -/

/-- The saturated set (R55, R203). -/
structure SatSet where
  vbus : Bool
  iload : Bool
  power : Bool
  vbm : Vector Bool 4
  ibm : Vector Bool 4
  tbm : Vector Bool 4
deriving DecidableEq, Repr

/-- The empty saturated set. -/
def SatSet.empty : SatSet :=
  ⟨false, false, false, Vector.replicate 4 false, Vector.replicate 4 false, Vector.replicate 4 false⟩

/-- A sense frame after limiting (R50, R51). -/
structure SenseFrame where
  vbus : Nat
  iload : Nat
  power : Nat
  vbm : Vector Nat 4
  ibm : Vector Int 4
  tbm : Vector Int 4
  saturated : SatSet
deriving DecidableEq, Repr

/-- The evaluation window in progress (R53). -/
structure Window where
  count : Nat
  powerSum : Nat
  vbusSum : Nat
  iloadSum : Nat
  vbmSum : Vector Nat 4
  ibmSum : Vector Int 4
  tbmSum : Vector Int 4
  satFlag : Bool
  saturated : SatSet
deriving DecidableEq, Repr

/-- The empty window (R53, R57). -/
def Window.empty : Window where
  count := 0
  powerSum := 0
  vbusSum := 0
  iloadSum := 0
  vbmSum := Vector.replicate 4 0
  ibmSum := Vector.replicate 4 0
  tbmSum := Vector.replicate 4 0
  satFlag := false
  saturated := .empty

/-- The latest window figures (R53). -/
structure Figures where
  pAvg : Nat
  vbusMean : Nat
  iloadMean : Nat
  vMean : Vector Nat 4
  iMean : Vector Int 4
  tMean : Vector Int 4
  discharge : Nat
  windowCount : BitVec 16
  saturated : SatSet
deriving DecidableEq, Repr

/-- The Sense Front-End. -/
structure Sfe where
  /-- the latest sense frame (the block table of the scope chapter, R52) -/
  frame : SenseFrame
  window : Window
  latest : Figures
deriving DecidableEq, Repr

/-! ## AC Line Monitor (R58 to R66) -/

/-- One input phase (R58, section 3.4). -/
structure PhaseRecord where
  state : PhaseState
  bad : Nat
  stable : Nat
  newest : Option Nat
  previous : Option Nat
  /-- the capture counter, µs, held at 65,535 -/
  counter : Nat
  /-- how many µs of the present millisecond the counter's value, or its restart, already accounts for, 0 to 1,000: the MODEL's own
  field, which keeps the counter exact at the next sense frame (log entry 9) -/
  ahead : Nat
  /-- a crossing has been seen since power-on reset (R58) -/
  crossed : Bool
deriving DecidableEq, Repr

/-- The AC Line Monitor. -/
structure Acm where
  phases : Vector PhaseRecord 3
  shelf : AcState
deriving DecidableEq, Repr

/-! ## Rectifier Supervisor (R32) -/

/-- The state part of a rectifier record (R32). -/
structure Rectifier where
  state : RectifierState
  derate : Nat
  adminDisabled : Bool
  retryPhase : Option RetryPhase
  retryTimer : Timer
  retryCount : Nat
  runTime : Nat
  lastFault : Option Byte
  contribution : Nat
deriving DecidableEq, Repr

/-- The Rectifier Supervisor: the records and P_avail (R46). -/
structure Rsv where
  rects : Vector Rectifier 6
  pAvail : Nat
deriving DecidableEq, Repr

/-! ## Battery Monitor (R67, R81) -/

/-- A module's latest impedance test (R80, R205). -/
structure TestRecord where
  outcome : TestOutcome
  cause : Option AbortCause
  rNew : Option Nat
  delta : Option (Int × Int)
deriving DecidableEq, Repr

/-- The state part of a battery module record (R67), with the module's latest test (R80). -/
structure Battery where
  seeded : Bool
  q : Nat
  r : Int
  resistance : Nat
  /-- R measured, with the part time of the measurement -/
  measuredAt : Option PartTime
  state : BatteryState
  percent : Option Nat
  full : Bool
  cutoff : Bool
  reportedFault : Bool
  tempFault : Bool
  outCount : Nat
  inCount : Nat
  latest : Option TestRecord
deriving DecidableEq, Repr

/-- The impedance test context (R81). -/
structure TestContext where
  module : Option (Fin 4)
  phase : TestPhase
  count : Nat
  vSum : Nat
  iSum : Int
  /-- V0 and I0 -/
  base : Option (Nat × Int)
  /-- V1 and I1 -/
  loaded : Option (Nat × Int)
  pending : Option PendingResult
  loadAcked : Bool
  releaseOwed : Bool
deriving DecidableEq, Repr

/-- The Battery Monitor. -/
structure Bmn where
  batts : Vector Battery 4
  test : TestContext
  /-- the bridge state last received (R76) -/
  lastBridge : BridgeState
deriving DecidableEq, Repr

/-! ## Bridge Controller (R90) -/

/-- The estimate of one counted position (R105, R106, R109). -/
structure ModuleEstimate where
  vMean : Nat
  iMean : Int
  resistance : Nat
  q : Nat
  qfloor : Nat
  voc : Int
  current : Nat
  vs : Nat
  usable : Nat
  energy : Nat
  sagLimited : Bool
deriving DecidableEq, Repr

/-- The estimate record (R109). `elapsed` holds the elapsed seconds and T_need. -/
structure Estimate where
  kind : EstimateKind
  windowCount : BitVec 16
  load : Nat
  pAvail : Nat
  pBatt : Nat
  n : Nat
  positions : Vector (Option ModuleEstimate) 4
  eTotal : Nat
  eEff : Nat
  tRide : Nat
  elapsed : Option (Nat × Nat)
  pTarget : Option Nat
  shedAmount : Option Nat
  shedRequested : Bool
deriving DecidableEq, Repr

/-- The last shed item (R90). -/
structure LastShed where
  reason : ShedReason
  asked : Nat
  sum : Nat
  shortfall : Nat
deriving DecidableEq, Repr

/-- The Bridge Controller. -/
structure Brc where
  state : BridgeState
  /-- the outage elapsed time in ms -/
  elapsedMs : Nat
  shedSettle : Timer
  stable : Timer
  acSeen : Bool
  shortfallReported : Bool
  estimate : Option Estimate
  lastShed : Option LastShed
  lastOutage : Option Nat
  /-- P_avail as the Bridge Controller last read it (R46, R102) -/
  pAvailRead : Nat
deriving DecidableEq, Repr

/-! ## Load Manager (R3, R21, R27) -/

/-- The state part of a slot record (R3). -/
structure Slot where
  state : SlotState
  shedReason : Option ShedReason
  unconfirmed : Bool
  chargedInrush : Option Nat
  draw : Option Nat
  power : Option UnitPower
  overdraw : Nat
deriving DecidableEq, Repr

/-- A zone record (R21). -/
structure Zone where
  wet : Bool
  isolated : Bool
  isolationDelay : Timer
  /-- the zone shed line is asserted (pulled low) (R26) -/
  line : Bool
deriving DecidableEq, Repr

/-- The Load Manager. -/
structure Ldm where
  slots : Vector Slot 48
  zones : Vector Zone 8
  restoreList : List (Fin 48)
  pComm : Nat
  rampLevel : Nat
deriving DecidableEq, Repr

/-! ## Power-Up Sequencer (R115, R119, R132) -/

/-- The restore run record (R132). `kept` is the kept state; the kept hold reason, paused-from and position stay in the
sequencer's own items, which the run does not use. -/
structure RestoreRun where
  kept : Option SeqState
  phase : RestorePhase
  hold : Option RefusalReason
  slot : Option (Fin 48)
  timer : Timer
  count : Nat
deriving DecidableEq, Repr

/-- The Power-Up Sequencer. -/
structure Seq where
  active : Option Plan
  staged : PlanBuffer
  startPending : Bool
  /-- STAGED still holds the start-up plan of R135, waiting for the first entry into SUPERVISE -/
  startupStaged : Bool
  state : SeqState
  stepIndex : Nat
  cursor : Nat
  stepBegun : Bool
  /-- the admitted set: each slot with its acknowledged mark -/
  admitted : List (Fin 48 × Bool)
  holdReason : Option HoldReason
  awaitTimer : Timer
  settleTimer : Timer
  pausedFrom : Option (SeqState × Option HoldReason)
  bridgeHold : Bool
  hostSilent : Bool
  restore : Option RestoreRun
deriving DecidableEq, Repr

/-! ## Leak Monitor (R138, R149, R151) -/

/-- The state part of a leak channel record (R138). -/
structure LeakChannel where
  state : LeakState
  runClass : Option RunClass
  runCount : Nat
  priorWet : Bool
  location : Option Nat
  locationSamples : Nat
  lastConductance : Nat
  /-- last loop resistance; `none` is OPEN -/
  lastLoop : Option Nat
deriving DecidableEq, Repr

/-- The Leak Monitor: channels, zone wet views and zone delay timers. -/
structure Lkm where
  channels : Vector LeakChannel 8
  wetView : Vector Bool 8
  delay : Vector Timer 8
deriving DecidableEq, Repr

/-! ## Unit Link Controller (R155 to R177) -/

/-- The latest event read from a unit (R162). -/
structure UnitEvent where
  code : Byte
  data : List Byte
  time : PartTime
deriving DecidableEq, Repr

/-- The state part of a Unit Table record (R162). -/
structure UnitRecord where
  presence : Presence
  prior : Option Presence
  misses : Nat
  lastEvent : Option UnitEvent
deriving DecidableEq, Repr

/-- The Unit Table (R162), by unit kind. -/
structure UnitTable where
  rects : Vector UnitRecord 6
  batts : Vector UnitRecord 4
  slots : Vector UnitRecord 48
deriving DecidableEq, Repr

/-- A command record (R169). -/
structure CommandRecord where
  target : UnitId
  kind : CommandKind
  argument : Option Nat
  origin : Origin
  tries : Nat
  /-- The call is a retry's ENABLE or that of a RECTIFIER_CLEAR, the only MODULE calls whose outcomes R39 takes. The MODEL's own mark
  (log 28): R169 lists no such field, and R39 and R42 tell the two kinds of ENABLE apart. -/
  retry : Bool
deriving DecidableEq, Repr

/-- A range of Unit Link addresses (R167). -/
structure AddrRange where
  lo : Nat
  hi : Nat
deriving DecidableEq, Repr

/-- The transaction the line carries (R159). A poll or round transaction is `live` while the cycle or round that made it still
stands; after R165 or R176 abandons it, its outcome acts on the Unit Table alone. -/
inductive Transaction where
  | poll (u : UnitId) (live : Bool)
  | discovery (u : UnitId)
  | eventCall (r : AddrRange) (live : Bool)
  | eventRead (u : UnitId) (live : Bool)
  | command (rec : CommandRecord)
  | pass (address : Nat) (payload : List Byte)
deriving DecidableEq, Repr

/-- The pass-through slot (R174, R185). -/
structure PassSlot where
  address : Nat
  payload : List Byte
  sent : Bool
  /-- the 1,000 ms limit of R185, running until the call is granted -/
  limit : Timer
deriving DecidableEq, Repr

/-- One transmitted character of a call (R155): its mark bit and its data byte. -/
structure CallChar where
  mark : Bool
  data : Byte
deriving DecidableEq, Repr

/-- The Unit Link Controller. -/
structure Ulc where
  line : LineState
  transaction : Option Transaction
  /-- the bits of the call the part is sending, in the order they go onto the line (R155, R158); empty outside CALL -/
  sending : List Bool
  /-- the response timer, in character times, running in WAIT (R159) -/
  responseTimer : Timer
  units : UnitTable
  /-- the cycle timer, ms remaining (R166) -/
  cycleTimer : Timer
  cycleRunning : Bool
  cursor : Nat
  startPending : Bool
  /-- start-up discovery: the place in `allUnits` of the next unit to call (R161a) -/
  discovery : Option Nat
  /-- the event round's current range (R167) -/
  current : Option AddrRange
  /-- the unit the round's next EVENT_READ is due to (R167) -/
  toRead : Option UnitId
  /-- the Split Stack, top first (R167) -/
  stack : List AddrRange
  q0 : List CommandRecord
  q1 : List CommandRecord
  pass : Option PassSlot
  linkOverrun : Bool
  overrunCount : Nat
  /-- the divider in force on the line, which follows LinkDivN and LinkDivK when the line is IDLE (R156) -/
  divN : Nat
  divK : Nat
  /-- LINK_JABBER has been posted for the present run of activity (R161) -/
  jabberPosted : Bool
deriving DecidableEq, Repr

/-! ## The machine -/

/-- The whole part, and the queue of commands waiting for it, first in first out. -/
structure State where
  /-- part time (R2) -/
  partTime : PartTime
  mgp : Mgp
  nq : Nq
  lvs : Lvs
  sfe : Sfe
  acm : Acm
  rsv : Rsv
  bmn : Bmn
  brc : Brc
  ldm : Ldm
  seq : Seq
  lkm : Lkm
  ulc : Ulc
  /-- the commands that are waiting -/
  pending : List Instr
deriving DecidableEq, Repr

/-- The faults of the machine. The spec gives the part none: every event and every request has an effect, or is answered with a
status code, and the part runs on. The type is closed and empty, so that no command can stop the machine (safe). -/
inductive Fault
deriving DecidableEq, Repr

/-- The refusals of the model. -/
inductive Refusal where
  /-- Raised by `exec` alone, for a command whose meaning is not yet in the model; safe, since the machine then stops. -/
  | notModelled (mnemonic : String)
deriving DecidableEq, Repr

/-! ## Reset values -/

/-- A slot record after power-on reset (R29). -/
def Slot.reset : Slot := ⟨.vacant, none, false, none, none, none, 0⟩

/-- A zone record after power-on reset (R26, R29). -/
def Zone.reset : Zone := ⟨false, false, none, false⟩

/-- A rectifier record after power-on reset (R48). -/
def Rectifier.reset : Rectifier := ⟨.absent, 0, false, none, none, 0, 0, none, 0⟩

/-- A battery record after power-on reset with the DefaultR as loaded (R89). -/
def Battery.reset (defaultR : Nat) : Battery :=
  ⟨false, 0, 0, defaultR, none, .absent, none, false, false, false, false, 0, 0, none⟩

/-- The idle impedance test context (R81, R89). -/
def TestContext.reset : TestContext := ⟨none, .idle, 0, 0, 0, none, none, none, false, false⟩

/-- A phase after power-on reset (R66). -/
def PhaseRecord.reset : PhaseRecord := ⟨.lost, 0, 0, none, none, 0, 0, false⟩

/-- A leak channel after power-on reset (R153). -/
def LeakChannel.reset (enabled : Bool) : LeakChannel :=
  ⟨if enabled then .dry else .disabled, none, 0, false, none, 0, 0, some 0⟩

/-- A Unit Table record after power-on reset (R175). -/
def UnitRecord.reset : UnitRecord := ⟨.unknown, none, 0, none⟩

/-- The Management Port after power-on reset, its settings loaded (R191). -/
def Mgp.reset (cfg : Settings) : Mgp where
  assembly := []
  pending := .free
  reply := none
  sending := []
  crcDiscards := 0
  portOverrun := false
  silenceTimer := if cfg.hostSilenceS = 0 then none else some (cfg.hostSilenceS * 1000)
  hostSilent := false
  wasSilent := false
  bitRate := cfg.mgmtBitRate
  restartDue := false

/-- The Sense Front-End after power-on reset (R57; the latest frame is zero until the first completes, DESIGN CHOICE, log entry
32). -/
def Sfe.reset : Sfe where
  frame := ⟨0, 0, 0, Vector.replicate 4 0, Vector.replicate 4 0, Vector.replicate 4 0, .empty⟩
  window := .empty
  latest := ⟨0, 0, 0, Vector.replicate 4 0, Vector.replicate 4 0, Vector.replicate 4 0, 0, 0, .empty⟩

/-- The Bridge Controller after power-on reset (R111); P_avail starts at 0 (R48), and so does the figure the Bridge Controller last
read (log entry 36). -/
def Brc.reset : Brc := ⟨.grid, 0, none, none, false, false, none, none, none, 0⟩

/-- The sequencer after power-on reset with the start-up plan of R135 staged where there is one (R136). -/
def Seq.reset (startup : Option Plan) : Seq where
  active := none
  staged := match startup with | some p => .ready p | none => .empty
  startPending := false
  startupStaged := startup.isSome
  state := .idle
  stepIndex := 0
  cursor := 0
  stepBegun := false
  admitted := []
  holdReason := none
  awaitTimer := none
  settleTimer := none
  pausedFrom := none
  bridgeHold := false
  hostSilent := false
  restore := none

/-- The Unit Link Controller after power-on reset, discovery asked for (R161a, R175, R197). -/
def Ulc.reset (cfg : Settings) : Ulc where
  line := .guarded
  transaction := none
  sending := []
  responseTimer := none
  units := ⟨Vector.replicate 6 .reset, Vector.replicate 4 .reset, Vector.replicate 48 .reset⟩
  cycleTimer := none
  cycleRunning := false
  cursor := 0
  startPending := false
  discovery := some 0
  current := none
  toRead := none
  stack := []
  q0 := []
  q1 := []
  pass := none
  linkOverrun := false
  overrunCount := 0
  divN := cfg.linkDivN
  divK := cfg.linkDivK
  jabberPosted := false

/-- The stored plan counts for a start-up only when READY and AutoStartPlan is on (R135). -/
def Settings.startupPlan (cfg : Settings) : Option Plan :=
  match cfg.autoStartPlan, cfg.storedPlan with
  | true, .ready p => some p
  | _, _ => none

/-- The machine right after power-on reset, steps 1 to 3 of the start-up sequence taken and discovery asked for (R197), for a
part that loaded `cfg`; `image` is the stored image, `defaulted` says that it was invalid. -/
def State.started (cfg : Settings) (image : Option Settings) (defaulted : Bool) : State where
  partTime := 0
  mgp := .reset cfg
  nq := if defaulted then ⟨[⟨0, .settingsDefaulted, 0, []⟩], false, true⟩ else ⟨[], false, false⟩
  lvs := ⟨.configure, cfg, image, defaulted, none, true, defaulted, false⟩
  sfe := .reset
  acm := ⟨Vector.replicate 3 .reset, .lost⟩
  rsv := ⟨Vector.replicate 6 .reset, 0⟩
  bmn := ⟨Vector.replicate 4 (.reset cfg.defaultR), .reset, .grid⟩
  brc := .reset
  ldm := ⟨Vector.replicate 48 .reset, Vector.replicate 8 .reset, [], 0, 0⟩
  seq := .reset cfg.startupPlan
  lkm := ⟨Vector.ofFn fun c => .reset cfg.leaks[c].enabled, Vector.replicate 8 false, Vector.replicate 8 none⟩
  ulc := .reset cfg
  pending := []

/-- The machine right after reset: a part whose stored image is invalid, as before its first commit (DESIGN CHOICE, log entry
2: the spec gives the image no reset value, since it is nonvolatile), with the default settings (R197). -/
def State.reset : State := .started .default none true

end Sys2Proof.Machine
end

