-- ==== Sys2Proof/Machine/Layout.lean ====
section
/-! DEFINITION. Machine/Layout.lean: how values become bytes on the two lines (R200, R204), the two CRCs (R158, R179), the reply
frame (R183), and the units' addresses. -/
namespace Sys2Proof.Machine

/-! ## Fields (R200) -/

/-- The low `k` bytes of `v`, the high byte first (R200). -/
def bytesOf (k : Nat) (v : BitVec 32) : List Byte :=
  (List.range k).map fun i => (v >>> (8 * (k - 1 - i))).setWidth 8

/-- An unsigned field of `k` bytes (R200). A value the field cannot hold leaves bytes the spec does not state (log entry 5). -/
def unsignedField (k n : Nat) : List Byte :=
  bytesOf k (if n < 256 ^ k then BitVec.ofNat 32 n else Config.outOfFormat n)

/-- A signed two's complement field of `k` bytes (R200), with the same proviso. -/
def signedField (k : Nat) (v : Int) : List Byte :=
  bytesOf k (if -(256 ^ k / 2 : Int) ≤ v ∧ v < (256 ^ k / 2 : Int) then BitVec.ofInt 32 v else Config.outOfFormat v)

/-- One unsigned byte. -/
def u8 (n : Nat) : List Byte := unsignedField 1 n
/-- Two unsigned bytes, high byte first. -/
def u16 (n : Nat) : List Byte := unsignedField 2 n
/-- Four unsigned bytes, high byte first. -/
def u32 (n : Nat) : List Byte := unsignedField 4 n
/-- One signed byte. -/
def s8 (v : Int) : List Byte := signedField 1 v
/-- Two signed bytes, high byte first. -/
def s16 (v : Int) : List Byte := signedField 2 v
/-- Four signed bytes, high byte first. -/
def s32 (v : Int) : List Byte := signedField 4 v
/-- A yes-or-no byte. -/
def flagByte (b : Bool) : List Byte := [if b then 1 else 0]

/-- A one-byte field that reads 0xFF when absent (R200). -/
def orFF (v : Option Nat) : List Byte :=
  match v with
  | some n => u8 n
  | none => [0xFF]

/-- A byte of flags, bit 0 first in the list (R200). -/
def flagBits (bits : List Bool) : Nat := bits.foldr (fun b acc => (if b then 1 else 0) + 2 * acc) 0

/-- The number two bytes stand for, the high byte first (R200). -/
def nat16 (hi lo : Byte) : Nat := hi.toNat * 256 + lo.toNat

/-- The number four bytes stand for, the high byte first (R200). -/
def nat32 (a b c d : Byte) : Nat := nat16 a b * 65536 + nat16 c d

/-! ## CRCs -/

/-- One bit of the CRC-16 with polynomial x¹⁶ + x¹² + x⁵ + 1, most significant bit first (R179). -/
def crc16Bit (c : BitVec 16) : BitVec 16 :=
  if c.msb then (c <<< 1) ^^^ 0x1021#16 else c <<< 1

/-- One byte of the CRC-16 (R179). -/
def crc16Byte (c : BitVec 16) (b : Byte) : BitVec 16 :=
  (List.range 8).foldl (fun x _ => crc16Bit x) (c ^^^ (b.setWidth 16 <<< 8))

/-- The CRC-16 of the Management Port, initial value 0xFFFF (R179). -/
def crc16 (bytes : List Byte) : BitVec 16 := bytes.foldl crc16Byte 0xFFFF#16

/-- One bit of the CRC-8 with polynomial x⁸ + x² + x + 1, most significant bit first (R158). -/
def crc8Bit (c : Byte) : Byte :=
  if c.msb then (c <<< 1) ^^^ 0x07#8 else c <<< 1

/-- One byte of the CRC-8 (R158). -/
def crc8Byte (c b : Byte) : Byte := (List.range 8).foldl (fun x _ => crc8Bit x) (c ^^^ b)

/-- The CRC-8 of the Unit Link, initial value 0x00 (R158). -/
def crc8 (bytes : List Byte) : Byte := bytes.foldl crc8Byte 0x00#8

/-! ## Codes of names (R200): a name's place in its list -/

/-- The status code (R184). -/
def Status.code (s : Status) : Nat := s.ctorIdx
/-- The REFUSED reason code (R184). -/
def RefusalReason.code (r : RefusalReason) : Nat := r.ctorIdx
/-- A slot state's code (R3). -/
def SlotState.code (s : SlotState) : Nat := s.ctorIdx
/-- A rectifier state's code (R32). -/
def RectifierState.code (s : RectifierState) : Nat := s.ctorIdx
/-- A battery state's code (R67). -/
def BatteryState.code (s : BatteryState) : Nat := s.ctorIdx
/-- A bridge state's code (R90). -/
def BridgeState.code (s : BridgeState) : Nat := s.ctorIdx
/-- A presence code: UNKNOWN 0, PRESENT 1, MISSING 2, QUIET 3 (R205). -/
def Presence.code (p : Presence) : Nat := p.ctorIdx
/-- A notice kind's number, counting from 1 (R200). -/
def NoticeKind.code (k : NoticeKind) : Nat := k.ctorIdx + 1
/-- The bit of a level: 1 is SUPERVISE (R203). -/
def Level.code (l : Level) : Nat := l.ctorIdx

/-- The block that posts a notice kind (the table of R188). -/
def NoticeKind.block : NoticeKind → Block
  | .slotFoundOn | .slotFault | .slotOffReported | .overdraw | .powerOnFailed | .powerOffFailed
  | .zoneIsolated | .zoneReleased => .ldm
  | .rectifierState | .rectifierCallFailed => .rsv
  | .senseSaturated => .sfe
  | .phaseState | .acState => .acm
  | .batteryState | .impedanceResult | .testReleaseFailed => .bmn
  | .bridgeState | .shedDone | .uncoverable => .brc
  | .planStarted | .planDone | .planCancelled | .stepSlotSkipped | .stepTimeout | .seqHold | .restoreDone => .seq
  | .leakState | .zoneWet | .isolationPending | .isolationCancelled => .lkm
  | .unitPresence | .unitQuiet | .linkJabber | .unitEvent | .eventNoise => .ulc
  | .hostSilent => .mgp
  | .started | .commitDone | .settingsDefaulted => .lvs

/-- A notice record in a FETCH_NOTICES reply (R200). -/
def Notice.bytes (n : Notice) : List Byte :=
  bytesOf 4 n.stamp ++ u8 n.kind.code ++ u8 n.kind.block.ctorIdx ++ u8 n.index ++ u8 n.data.length ++ n.data

/-! ## Replies (R183, R184) -/

/-- What a request is answered with, before it is framed (R183). -/
structure Response where
  status : Status
  clamped : Bool
  payload : List Byte
deriving DecidableEq, Repr

/-- An OK response with a payload. -/
def okWith (payload : List Byte) : Response := ⟨.ok, false, payload⟩
/-- An OK response with no payload. -/
def okEmpty : Response := okWith []
/-- A refused response with no payload (R183). -/
def refuse (s : Status) : Response := ⟨s, false, []⟩
/-- A REFUSED response with its reason code (R183, R184). -/
def refuseFor (r : RefusalReason) : Response := ⟨.refused, false, u8 r.code⟩

/-- The status byte: the code in bits 0 to 6, the CLAMPED flag in bit 7 with OK alone (R200). -/
def Response.statusByte (r : Response) : Byte :=
  BitVec.ofNat 8 (r.status.code + if r.status = .ok ∧ r.clamped then 128 else 0)

/-- The reply frame to a request (R183). An unknown kind of 0x80 or above, to which 0x80 is added, is a value that the one byte of
the reply's kind cannot hold (log entry 5). -/
def replyFrame (kind tag : Byte) (r : Response) : List Byte :=
  let body := u8 r.payload.length ++ u8 (kind.toNat + 0x80) ++ [tag, r.statusByte] ++ r.payload
  [0xA5#8] ++ body ++ bytesOf 2 ((crc16 body).setWidth 32)

/-- The frame of a request, sync byte first (R179). -/
def requestFrame (r : Request) : List Byte :=
  let body := u8 r.payload.length ++ [r.kind, r.tag] ++ r.payload
  [0xA5#8] ++ body ++ bytesOf 2 ((crc16 body).setWidth 32)

/-- The CRC-16 of a whole request frame, given without its sync byte, matches (R179, R180). -/
def requestCrcMatches (frame : List Byte) : Bool :=
  match frame with
  | [] => false
  | len :: _ =>
    bytesOf 2 ((crc16 (frame.take (len.toNat + 3))).setWidth 32) == frame.drop (len.toNat + 3)

/-! ## Unit Link addresses and calls (R158, R162, R204) -/

/-- A unit's Unit Link address. -/
def UnitId.address : UnitId → Nat
  | .rectifier k => 0x10 + k
  | .battery i => 0x18 + i
  | .slot n => 0x20 + n

/-- The unit at an address, if the address is in the Unit Table. -/
def UnitId.ofAddress (a : Nat) : Option UnitId :=
  if h : 0x10 ≤ a ∧ a < 0x16 then some (.rectifier ⟨a - 0x10, by omega⟩)
  else if h : 0x18 ≤ a ∧ a < 0x1C then some (.battery ⟨a - 0x18, by omega⟩)
  else if h : 0x20 ≤ a ∧ a < 0x50 then some (.slot ⟨a - 0x20, by omega⟩)
  else none

/-- A unit kind's code: RECTIFIER 0, BATTERY 1, SLOT 2 (R205). -/
def UnitId.kindCode : UnitId → Nat
  | .rectifier _ => 0
  | .battery _ => 1
  | .slot _ => 2

/-- A Poll Table entry's byte: the unit's address, or 0x00 for an EVENT_ROUND marker (R205). -/
def PollEntry.code : PollEntry → Nat
  | .unit u => u.address
  | .eventRound => 0

/-- The call kind of a command (R204). -/
def CommandKind.code : CommandKind → Byte
  | .powerOn => 0x10
  | .powerOff => 0x11
  | .enable => 0x20
  | .disable => 0x21
  | .testLoadOn => 0x22
  | .testLoadOff => 0x23

/-- The address, call kind and payload of a transaction's call (R158, R204). -/
def Transaction.call : Transaction → Nat × Byte × List Byte
  | .poll u _ => (u.address, 0x01, [])
  | .discovery u => (u.address, 0x01, [])
  | .eventCall r _ => (r.lo, 0x02, u8 r.hi)
  | .eventRead u _ => (u.address, 0x03, [])
  | .command rec => (rec.target.address, rec.kind.code, match rec.argument with | some n => u16 n | none => [])
  | .pass a payload => (a, 0x40, payload)

/-- The characters of a transaction's call: the marked address, the kind, the payload length, the payload and the CRC-8
(R155, R158). -/
def Transaction.callChars (t : Transaction) : List CallChar :=
  let (address, kind, payload) := t.call
  let body := u8 address ++ [kind] ++ u8 payload.length ++ payload
  match body ++ [crc8 body] with
  | [] => []
  | a :: rest => ⟨true, a⟩ :: rest.map fun b => ⟨false, b⟩

/-- The eleven bits of a character in the order they are sent: the start bit 0, the data bits least significant first, the mark bit
and the stop bit 1 (R155). -/
def CallChar.bits (c : CallChar) : List Bool :=
  [false] ++ (List.range 8).map (fun i => c.data.getLsbD i) ++ [c.mark, true]

/-- The bits the part sends for a transaction's call (R155, R158). -/
def Transaction.callBits (t : Transaction) : List Bool := t.callChars.flatMap CallChar.bits

/-- The level the part drives onto the line at a bit of its call phase: the bit of the call being sent, and rest, which is 1, when
the call has ended and in every other phase (R155). -/
def Ulc.level (u : Ulc) (bit : Nat) : Bool :=
  match u.sending[bit]? with
  | some b => b
  | none => true

/-- The ten bits of a byte on the Management Port in the order they are sent: the start bit 0, the data bits least significant first
and the stop bit 1 (R178). -/
def portBits (b : Byte) : List Bool := [false] ++ (List.range 8).map (fun i => b.getLsbD i) ++ [true]

/-- A reply frame enters the reply buffer, and its bits go onto the line from the first byte to the last (R178, R183). -/
def Mgp.startReply (frame : List Byte) (m : Mgp) : Mgp :=
  { m with reply := some frame, sending := frame.flatMap portBits }

/-- The reply buffer is free, and no bit is sent (R181, R183). -/
def Mgp.endReply (m : Mgp) : Mgp := { m with reply := none, sending := [] }

/-- The level the port drives at a bit of the reply it sends: that bit, and rest, which is 1, past its end and with no reply (R178; that the
line rests at 1, as the Unit Link does, is in log entry 18). -/
def Mgp.level (m : Mgp) (bit : Nat) : Bool :=
  match m.sending[bit]? with
  | some b => b
  | none => true

/-- The cycles of the 24 MHz reference one bit lasts, 16 × D, for a divider N and K (R156). -/
def bitCycles (n k : Nat) : Nat := if k = 0 then 16 * n else 16 * n + (16 - k)

/-- The divider of each Management Port rate (R178). -/
def BitRate.divider : BitRate → Nat × Nat
  | .b115200 => (13, 0)
  | .b230400 => (6, 8)
  | .b460800 => (3, 12)
  | .b921600 => (1, 6)

/-- The actual rate of a Management Port setting, in bit/s, rounded to the nearest as the table gives it (R178). -/
def BitRate.actual (r : BitRate) : Nat :=
  let cycles := bitCycles r.divider.1 r.divider.2
  (2 * 24000000 + cycles) / (2 * cycles)

/-- The bit rate of a Unit Link divider, in bit/s, rounded down as the table gives it (R156). -/
def bitRateOf (n k : Nat) : Nat := 24000000 / bitCycles n k

end Sys2Proof.Machine
end

