-- ==== Sys2Proof/Machine/Settings.lean ====
section
/-! DEFINITION. Machine/Settings.lean: the settings WRITE_SETTING and READ_SETTING name (R194, R202): their numbers, ranges,
defaults and coding, and reading and replacing one in a copy of the settings. -/
namespace Sys2Proof.Machine

/-- A setting with its index (R202), in the order of the setting numbers. -/
inductive SettingKey where
  | lineFrequency | halfPeriodTolerancePct | phaseStableCount
  | rectifierRating (k : Fin 6) | rectifierFeed (k : Fin 6)
  | redundancy | retryLimit | retryDelayMs | retryWindowS
  | headroomW | coverageRequired | rampCeilingW | rampDecayW
  | batteryCapacity (i : Fin 4) | reservePct | defaultR | testCurrentA | testMinSocPct
  | holdupRequiredS | vcutModule | efficiency | dischargeThresh | acStableMs | shedSettleMs
  | autoRestore | restoreSettleMs | autoStartPlan
  | pollCycleMs | arbiterStrategy | responseTimeoutCode | cmdRetries
  | linkDivN | linkDivK | mgmtBitRate | hostSilenceS | startLevel
deriving DecidableEq, Repr

/-- A setting that carries no index accepts index 0 alone (R202). -/
def unindexed (k : SettingKey) (index : Nat) : Option SettingKey := if index = 0 then some k else none

/-- An indexed setting accepts the indices of its population (R202). -/
def indexed {n : Nat} (f : Fin n → SettingKey) (index : Nat) : Option SettingKey :=
  if h : index < n then some (f ⟨index, h⟩) else none

/-- The settings by number, number 1 first (R202). -/
def settingRows : List (Nat → Option SettingKey) :=
  [unindexed .lineFrequency, unindexed .halfPeriodTolerancePct, unindexed .phaseStableCount,
   indexed .rectifierRating, indexed .rectifierFeed, unindexed .redundancy, unindexed .retryLimit,
   unindexed .retryDelayMs, unindexed .retryWindowS,
   unindexed .headroomW, unindexed .coverageRequired, unindexed .rampCeilingW, unindexed .rampDecayW,
   indexed .batteryCapacity, unindexed .reservePct, unindexed .defaultR, unindexed .testCurrentA,
   unindexed .testMinSocPct,
   unindexed .holdupRequiredS, unindexed .vcutModule, unindexed .efficiency, unindexed .dischargeThresh,
   unindexed .acStableMs, unindexed .shedSettleMs,
   unindexed .autoRestore, unindexed .restoreSettleMs, unindexed .autoStartPlan,
   unindexed .pollCycleMs, unindexed .arbiterStrategy, unindexed .responseTimeoutCode, unindexed .cmdRetries,
   unindexed .linkDivN, unindexed .linkDivK, unindexed .mgmtBitRate, unindexed .hostSilenceS, unindexed .startLevel]

/-- The setting a number and an index name (R202); `none` for an unknown number or an index beyond the population. -/
def SettingKey.find (number index : Nat) : Option SettingKey :=
  match number with
  | 0 => none
  | m + 1 => match settingRows[m]? with
    | some row => row index
    | none => none

/-- The settings before the battery settings, in the order of the setting numbers. -/
def settingKeysBeforeBattery : List SettingKey :=
  List.append [.lineFrequency, .halfPeriodTolerancePct, .phaseStableCount]
    (List.append ((List.finRange 6).map fun k => SettingKey.rectifierRating k)
      (List.append ((List.finRange 6).map fun k => SettingKey.rectifierFeed k)
        [.redundancy, .retryLimit, .retryDelayMs, .retryWindowS, .headroomW, .coverageRequired, .rampCeilingW,
         .rampDecayW]))

/-- The settings after BatteryCapacity, in the order of the setting numbers. -/
def settingKeysAfterCapacity : List SettingKey :=
  [.reservePct, .defaultR, .testCurrentA, .testMinSocPct, .holdupRequiredS, .vcutModule, .efficiency, .dischargeThresh,
   .acStableMs, .shedSettleMs, .autoRestore, .restoreSettleMs, .autoStartPlan, .pollCycleMs, .arbiterStrategy,
   .responseTimeoutCode, .cmdRetries, .linkDivN, .linkDivK, .mgmtBitRate, .hostSilenceS, .startLevel]

/-- Every setting with every index, in the order of the setting numbers. -/
def allSettingKeys : List SettingKey :=
  List.append settingKeysBeforeBattery
    (List.append ((List.finRange 4).map fun i => SettingKey.batteryCapacity i) settingKeysAfterCapacity)

/-- A setting's range and coding: `lo` to `hi` as coded, whether it is chosen from a list, whether it is structural (R194). -/
structure SettingRange where
  lo : Nat
  hi : Nat
  list : Bool
  structural : Bool
deriving DecidableEq, Repr

/-- The ranges of the settings table of section 10.2; a list setting is coded by position, LineFrequency as 50 or 60 (R202). -/
def SettingKey.range : SettingKey → SettingRange
  | .lineFrequency => ⟨50, 60, true, false⟩
  | .halfPeriodTolerancePct => ⟨2, 20, false, false⟩
  | .phaseStableCount => ⟨4, 100, false, false⟩
  | .rectifierRating _ => ⟨500, 6000, false, false⟩
  | .rectifierFeed _ => ⟨1, 3, false, false⟩
  | .redundancy => ⟨0, 1, true, false⟩
  | .retryLimit => ⟨1, 10, false, false⟩
  | .retryDelayMs => ⟨1000, 60000, false, false⟩
  | .retryWindowS => ⟨10, 3600, false, false⟩
  | .headroomW => ⟨0, 5000, false, false⟩
  | .coverageRequired => ⟨0, 1, true, false⟩
  | .rampCeilingW => ⟨500, 40000, false, false⟩
  | .rampDecayW => ⟨10, 10000, false, false⟩
  | .batteryCapacity _ => ⟨1000, 65535, false, false⟩
  | .reservePct => ⟨0, 50, false, false⟩
  | .defaultR => ⟨1, 500, false, false⟩
  | .testCurrentA => ⟨50, 500, false, false⟩
  | .testMinSocPct => ⟨20, 100, false, false⟩
  | .holdupRequiredS => ⟨0, 3600, false, false⟩
  | .vcutModule => ⟨3000, 5000, false, false⟩
  | .efficiency => ⟨128, 256, false, false⟩
  | .dischargeThresh => ⟨10, 1000, false, false⟩
  | .acStableMs => ⟨500, 60000, false, false⟩
  | .shedSettleMs => ⟨100, 5000, false, false⟩
  | .autoRestore => ⟨0, 1, true, false⟩
  | .restoreSettleMs => ⟨0, 60000, false, false⟩
  | .autoStartPlan => ⟨0, 1, true, false⟩
  | .pollCycleMs => ⟨10, 1000, false, false⟩
  | .arbiterStrategy => ⟨0, 2, true, false⟩
  | .responseTimeoutCode => ⟨0, 3, false, false⟩
  | .cmdRetries => ⟨0, 3, false, false⟩
  | .linkDivN => ⟨2, 255, false, true⟩
  | .linkDivK => ⟨0, 15, false, true⟩
  | .mgmtBitRate => ⟨0, 3, true, false⟩
  | .hostSilenceS => ⟨0, 600, false, false⟩
  | .startLevel => ⟨0, 1, true, false⟩

/-- The bytes a setting's value takes: one when its largest value is at most 255, two otherwise (R202). -/
def SettingKey.width (k : SettingKey) : Nat := if k.range.hi ≤ 255 then 1 else 2

/-- Whether a coded value is one of a list setting's list. -/
def SettingKey.inList (k : SettingKey) (v : Nat) : Bool :=
  match k with
  | .lineFrequency => v == 50 || v == 60
  | _ => k.range.lo ≤ v && v ≤ k.range.hi

/-- A numeric value clamped to the nearer limit of a range (R194). -/
def clamp (lo hi v : Nat) : Nat := if v < lo then lo else if hi < v then hi else v

/-- A setting's value as coded (R202). -/
def Settings.get (c : Settings) : SettingKey → Nat
  | .lineFrequency => match c.lineFrequency with | .hz50 => 50 | .hz60 => 60
  | .halfPeriodTolerancePct => c.halfPeriodTolerancePct
  | .phaseStableCount => c.phaseStableCount
  | .rectifierRating k => c.rectifierRating[k]
  | .rectifierFeed k => c.rectifierFeed[k].val + 1
  | .redundancy => c.redundancy.ctorIdx
  | .retryLimit => c.retryLimit
  | .retryDelayMs => c.retryDelayMs
  | .retryWindowS => c.retryWindowS
  | .headroomW => c.headroomW
  | .coverageRequired => c.coverageRequired.toNat
  | .rampCeilingW => c.rampCeilingW
  | .rampDecayW => c.rampDecayW
  | .batteryCapacity i => c.batteryCapacity[i]
  | .reservePct => c.reservePct
  | .defaultR => c.defaultR
  | .testCurrentA => c.testCurrentA
  | .testMinSocPct => c.testMinSocPct
  | .holdupRequiredS => c.holdupRequiredS
  | .vcutModule => c.vcutModule
  | .efficiency => c.efficiency
  | .dischargeThresh => c.dischargeThresh
  | .acStableMs => c.acStableMs
  | .shedSettleMs => c.shedSettleMs
  | .autoRestore => c.autoRestore.toNat
  | .restoreSettleMs => c.restoreSettleMs
  | .autoStartPlan => c.autoStartPlan.toNat
  | .pollCycleMs => c.pollCycleMs
  | .arbiterStrategy => c.arbiterStrategy.ctorIdx
  | .responseTimeoutCode => c.responseTimeoutCode
  | .cmdRetries => c.cmdRetries
  | .linkDivN => c.linkDivN
  | .linkDivK => c.linkDivK
  | .mgmtBitRate => c.mgmtBitRate.ctorIdx
  | .hostSilenceS => c.hostSilenceS
  | .startLevel => c.startLevel.ctorIdx

/-- The phase a RectifierFeed value 1 to 3 names. -/
def feedPhase (v : Nat) : Fin 3 := ⟨(v - 1) % 3, Nat.mod_lt _ (by decide)⟩

/-- The settings with one value, given as coded, replaced (R202). -/
def Settings.put (c : Settings) (k : SettingKey) (v : Nat) : Settings :=
  match k with
  | .lineFrequency => { c with lineFrequency := if v = 60 then .hz60 else .hz50 }
  | .halfPeriodTolerancePct => { c with halfPeriodTolerancePct := v }
  | .phaseStableCount => { c with phaseStableCount := v }
  | .rectifierRating k => { c with rectifierRating := c.rectifierRating.set k v }
  | .rectifierFeed k => { c with rectifierFeed := c.rectifierFeed.set k (feedPhase v) }
  | .redundancy => { c with redundancy := if v = 1 then .nPlus1 else .none }
  | .retryLimit => { c with retryLimit := v }
  | .retryDelayMs => { c with retryDelayMs := v }
  | .retryWindowS => { c with retryWindowS := v }
  | .headroomW => { c with headroomW := v }
  | .coverageRequired => { c with coverageRequired := v == 1 }
  | .rampCeilingW => { c with rampCeilingW := v }
  | .rampDecayW => { c with rampDecayW := v }
  | .batteryCapacity i => { c with batteryCapacity := c.batteryCapacity.set i v }
  | .reservePct => { c with reservePct := v }
  | .defaultR => { c with defaultR := v }
  | .testCurrentA => { c with testCurrentA := v }
  | .testMinSocPct => { c with testMinSocPct := v }
  | .holdupRequiredS => { c with holdupRequiredS := v }
  | .vcutModule => { c with vcutModule := v }
  | .efficiency => { c with efficiency := v }
  | .dischargeThresh => { c with dischargeThresh := v }
  | .acStableMs => { c with acStableMs := v }
  | .shedSettleMs => { c with shedSettleMs := v }
  | .autoRestore => { c with autoRestore := v == 1 }
  | .restoreSettleMs => { c with restoreSettleMs := v }
  | .autoStartPlan => { c with autoStartPlan := v == 1 }
  | .pollCycleMs => { c with pollCycleMs := v }
  | .arbiterStrategy =>
    { c with arbiterStrategy := if v = 0 then .scheduleFirst else if v = 1 then .commandsFirst else .pollHold }
  | .responseTimeoutCode => { c with responseTimeoutCode := v }
  | .cmdRetries => { c with cmdRetries := v }
  | .linkDivN => { c with linkDivN := v }
  | .linkDivK => { c with linkDivK := v }
  | .mgmtBitRate =>
    { c with mgmtBitRate := if v = 0 then .b115200 else if v = 1 then .b230400 else if v = 2 then .b460800 else .b921600 }
  | .hostSilenceS => { c with hostSilenceS := v }
  | .startLevel => { c with startLevel := if v = 1 then .supervise else .configure }

/-- The working settings as a commit copies them: an EMPTY or FILLING stored plan is committed as no stored plan (R115). -/
def Settings.forImage (c : Settings) : Settings :=
  match c.storedPlan with
  | .ready _ => c
  | _ => { c with storedPlan := .empty }

end Sys2Proof.Machine
end

