-- ==== Sys2Proof/Machine/Ops.lean ====
section
/-! DEFINITION. Machine/Ops.lean: the named operations every block's rules are written over: changing one block's state, posting a
notice, reading the settings and the tables, changing a slot record with what hangs on it, and the Command Queues. -/
namespace Sys2Proof.Machine

/-! ## One block at a time -/

/-- Change the Management Port's state. -/
def State.mapMgp (f : Mgp → Mgp) (s : State) : State := { s with mgp := f s.mgp }
/-- Change the Notice Queue. -/
def State.mapNq (f : Nq → Nq) (s : State) : State := { s with nq := f s.nq }
/-- Change Level and Settings. -/
def State.mapLvs (f : Lvs → Lvs) (s : State) : State := { s with lvs := f s.lvs }
/-- Change the Sense Front-End's state. -/
def State.mapSfe (f : Sfe → Sfe) (s : State) : State := { s with sfe := f s.sfe }
/-- Change the AC Line Monitor's state. -/
def State.mapAcm (f : Acm → Acm) (s : State) : State := { s with acm := f s.acm }
/-- Change the Rectifier Supervisor's state. -/
def State.mapRsv (f : Rsv → Rsv) (s : State) : State := { s with rsv := f s.rsv }
/-- Change the Battery Monitor's state. -/
def State.mapBmn (f : Bmn → Bmn) (s : State) : State := { s with bmn := f s.bmn }
/-- Change the Bridge Controller's state. -/
def State.mapBrc (f : Brc → Brc) (s : State) : State := { s with brc := f s.brc }
/-- Change the Load Manager's state. -/
def State.mapLdm (f : Ldm → Ldm) (s : State) : State := { s with ldm := f s.ldm }
/-- Change the sequencer's state. -/
def State.mapSeq (f : Seq → Seq) (s : State) : State := { s with seq := f s.seq }
/-- Change the Leak Monitor's state. -/
def State.mapLkm (f : Lkm → Lkm) (s : State) : State := { s with lkm := f s.lkm }
/-- Change the Unit Link Controller's state. -/
def State.mapUlc (f : Ulc → Ulc) (s : State) : State := { s with ulc := f s.ulc }

/-- Take an action when a condition holds. -/
def State.onlyIf (c : Prop) [Decidable c] (f : State → State) (s : State) : State := if c then f s else s

/-- Take an action for each entry of a list in turn. -/
def State.forEach {α : Type} (l : List α) (f : α → State → State) (s : State) : State :=
  l.foldl (fun s a => f a s) s

/-! ## Reading -/

/-- The working settings. -/
abbrev State.cfg (s : State) : Settings := s.lvs.settings
/-- The settings part of a slot's record. -/
abbrev State.slotCfg (s : State) (n : Fin 48) : SlotSettings := s.cfg.slots[n]
/-- The state part of a slot's record. -/
abbrev State.slot (s : State) (n : Fin 48) : Slot := s.ldm.slots[n]
/-- A zone's record. -/
abbrev State.zone (s : State) (z : Fin 8) : Zone := s.ldm.zones[z]
/-- The zone a slot belongs to. -/
abbrev State.zoneOf (s : State) (n : Fin 48) : Fin 8 := (s.slotCfg n).zone
/-- A rectifier's record. -/
abbrev State.rect (s : State) (k : Fin 6) : Rectifier := s.rsv.rects[k]
/-- A battery module's record. -/
abbrev State.batt (s : State) (i : Fin 4) : Battery := s.bmn.batts[i]
/-- A leak channel's record. -/
abbrev State.channel (s : State) (c : Fin 8) : LeakChannel := s.lkm.channels[c]
/-- An input phase's record. -/
abbrev State.phase (s : State) (p : Fin 3) : PhaseRecord := s.acm.phases[p]

/-- A unit's Unit Table record (R162). -/
def UnitTable.get (t : UnitTable) : UnitId → UnitRecord
  | .rectifier k => t.rects[k]
  | .battery i => t.batts[i]
  | .slot n => t.slots[n]

/-- The Unit Table with a unit's record replaced. -/
def UnitTable.put (t : UnitTable) (u : UnitId) (r : UnitRecord) : UnitTable :=
  match u with
  | .rectifier k => { t with rects := t.rects.set k r }
  | .battery i => { t with batts := t.batts.set i r }
  | .slot n => { t with slots := t.slots.set n r }

/-- A unit's presence (R162). -/
def State.presence (s : State) (u : UnitId) : Presence := (s.ulc.units.get u).presence

/-- Whether a unit is QUIET (R164). -/
def State.isQuiet (s : State) (u : UnitId) : Bool := s.presence u == .quiet

/-- Admission check 1 (R13): the level is SUPERVISE and the start-up discovery has ended (R198). -/
def State.admitsLevel (s : State) : Bool := s.lvs.level == .supervise && !s.lvs.startingUp

/-! ## Notices (R188) -/

/-- Post a notice: stamped and placed at the tail, or discarded with NOTICES_LOST set when 32 are queued; ATTN# is asserted by a
posting that is queued (R188). -/
def post (kind : NoticeKind) (index : Nat) (data : List Byte) (s : State) : State :=
  s.mapNq fun q =>
    if q.notices.length < 32 then
      { q with notices := q.notices ++ [⟨s.partTime, kind, index, data⟩], attn := true }
    else { q with lost := true }

/-! ## Timers -/

/-- The remaining time of a timer after one more unit of it has passed. -/
def Timer.tick (t : Timer) : Timer :=
  match t with
  | some n => some (n - 1)
  | none => none

/-! ## The sequencer's reaction to reports (R123, R133)

A report to the sequencer moves it from AWAITING to SETTLING, or its restore run from AWAIT_ACK to SETTLE, and asks for nothing:
the next admission is a later step. -/

/-- The step of ACTIVE being run (R119). -/
def Seq.step (q : Seq) : Option PlanStep :=
  match q.active with
  | some p => p.steps[q.stepIndex]?
  | none => none

/-- Whether an entry of the admitted set is satisfied (R123). For READY the slot is ON or has left ENERGIZING for another state,
which is judged by the state it has when the condition is tested: a slot that has left ENERGIZING and was then admitted again by the
host is ENERGIZING, and its entry is unsatisfied again (DESIGN CHOICE, log entry 45). -/
def entrySatisfied (await : Await) (s : State) (e : Fin 48 × Bool) : Bool :=
  match await with
  | .none => true
  | .ack => e.2 || (s.slot e.1).state != .energizing
  | .ready => (s.slot e.1).state != .energizing

/-- Enter SETTLING with the step's settle time (R125). -/
def enterSettling (p : PlanStep) (s : State) : State :=
  s.mapSeq fun q => { q with state := .settling, holdReason := none, awaitTimer := none, settleTimer := some p.settleMs }

/-- Test the await condition in AWAITING (R123). -/
def testAwait (s : State) : State :=
  match s.seq.state, s.seq.step with
  | .awaiting, some p =>
    if s.seq.admitted.all (entrySatisfied p.await s) then enterSettling p s else s
  | _, _ => s

/-- The restore run's wait for its recorded slot ends (R133). -/
def endRestoreWait (n : Fin 48) (s : State) : State :=
  s.mapSeq fun q =>
    match q.restore with
    | some r =>
      if r.phase = .awaitAck ∧ r.slot = some n then
        { q with restore := some { r with phase := .settle, timer := some s.cfg.restoreSettleMs } }
      else q
    | none => q

/-- The report of a slot's departure from ENERGIZING (R123, R133). -/
def reportDeparture (n : Fin 48) (s : State) : State := testAwait (endRestoreWait n s)

/-- The forwarded outcome of a POWER ON call (R23, R123, R133). -/
def reportPowerOn (n : Fin 48) (o : CallOutcome) (s : State) : State :=
  if o = .acknowledged then
    testAwait (endRestoreWait n (s.mapSeq fun q =>
      { q with admitted := q.admitted.map fun e => if e.1 = n then (e.1, true) else e }))
  else testAwait s

/-! ## Slot records and P_comm (R10) -/

/-- Whether a slot state counts in P_comm (R10). -/
def SlotState.committed : SlotState → Bool
  | .energizing => true
  | .on => true
  | _ => false

/-- The committed load: the sum of the allocations of the slots in ENERGIZING or ON (R10). -/
def committedLoad (cfg : Settings) (slots : Vector Slot 48) : Nat :=
  ((List.finRange 48).map fun n => if slots[n].state.committed then cfg.slots[n].allocation else 0).sum

/-- Recompute P_comm (R10). -/
def recomputeCommitted (s : State) : State := s.mapLdm fun l => { l with pComm := committedLoad s.cfg l.slots }

/-- Replace a slot's record, recompute P_comm, and report a departure from ENERGIZING to the sequencer (R10, R123). -/
def putSlot (n : Fin 48) (r : Slot) (s : State) : State :=
  let was := (s.slot n).state
  let s' := recomputeCommitted (s.mapLdm fun l => { l with slots := l.slots.set n r })
  if was = .energizing ∧ r.state ≠ .energizing then reportDeparture n s' else s'

/-- Change a slot's record. -/
def mapSlot (n : Fin 48) (f : Slot → Slot) (s : State) : State := putSlot n (f (s.slot n)) s

/-- The state of a slot that would enter OFF: VACANT when its allocation is 0 (R4). -/
def State.offState (s : State) (n : Fin 48) : SlotState := if (s.slotCfg n).allocation = 0 then .vacant else .off

/-- Change a zone's record. -/
def mapZone (z : Fin 8) (f : Zone → Zone) (s : State) : State :=
  s.mapLdm fun l => { l with zones := l.zones.set z (f l.zones[z]) }

/-- Take a slot off the Restore List; the list closes up around it (R28). -/
def leaveRestoreList (n : Fin 48) (s : State) : State :=
  s.mapLdm fun l => { l with restoreList := l.restoreList.filter (· ≠ n) }

/-- Push a slot at the head of the Restore List (R18, R27). -/
def pushRestoreList (n : Fin 48) (s : State) : State :=
  s.mapLdm fun l => { l with restoreList := n :: l.restoreList }

/-- Give a slot's charged inrush back to RampLevel, floor 0; it becomes absent (R11). -/
def giveBackInrush (n : Fin 48) (s : State) : State :=
  match (s.slot n).chargedInrush with
  | some w =>
    mapSlot n (fun r => { r with chargedInrush := none }) (s.mapLdm fun l => { l with rampLevel := l.rampLevel - w })
  | none => s

/-! ## Command Queues (R169 to R171) -/

/-- Whether a command kind is a POWER call (R170). -/
def CommandKind.isPower : CommandKind → Bool
  | .powerOn => true
  | .powerOff => true
  | _ => false

/-- Whether a command's queue is Q0, the urgent queue of POWER OFF calls (R169). -/
def CommandKind.urgent : CommandKind → Bool
  | .powerOff => true
  | _ => false

/-- The in-flight command (R169). -/
def Ulc.inFlight (u : Ulc) : Option CommandRecord :=
  match u.transaction with
  | some (.command rec) => some rec
  | _ => none

/-- How many places of Q1 are taken: its queued records and an in-flight command that came from it (R169). -/
def Ulc.q1Load (u : Ulc) : Nat :=
  u.q1.length + match u.inFlight with
    | some rec => if rec.kind.urgent then 0 else 1
    | none => 0

/-- Room in Q1 (R169). -/
def State.roomInQ1 (s : State) : Bool := s.ulc.q1Load < 64

/-- A command record as it enters its queue (R169). -/
def newCommand (target : UnitId) (kind : CommandKind) (argument : Option Nat) (origin : Origin) : CommandRecord :=
  ⟨target, kind, argument, origin, 0, false⟩

/-- Place a command at the tail of its queue (R169). -/
def enqueue (rec : CommandRecord) (s : State) : State :=
  s.mapUlc fun u => if rec.kind.urgent then { u with q0 := u.q0 ++ [rec] } else { u with q1 := u.q1 ++ [rec] }

/-- What a withdrawn record leaves with its origin: a POWER ON's charged inrush goes back (R11, R23, R171); the rule that
withdrew the call sets everything else. -/
def recordWithdrawn (rec : CommandRecord) (s : State) : State :=
  match rec.kind, rec.target with
  | .powerOn, .slot n => reportPowerOn n .withdrawn (giveBackInrush n s)
  | _, _ => s

/-- Take the queued records a test picks out of Q0 and Q1, each completed as withdrawn (R170, R171). -/
def withdrawQueued (pick : CommandRecord → Bool) (s : State) : State :=
  let gone := s.ulc.q0.filter pick ++ s.ulc.q1.filter pick
  let s := s.mapUlc fun u =>
    { u with q0 := u.q0.filter fun r => !pick r, q1 := u.q1.filter fun r => !pick r }
  s.forEach gone recordWithdrawn

/-- A queued POWER call for a slot (R170). -/
def isPowerFor (n : Fin 48) (rec : CommandRecord) : Bool := rec.kind.isPower && rec.target == .slot n

/-- A queued POWER ON call for a slot. -/
def isPowerOnFor (n : Fin 48) (rec : CommandRecord) : Bool := rec.kind == .powerOn && rec.target == .slot n

/-- Place a POWER call for a slot: every queued POWER call for it is withdrawn, and the new call enters the tail of its queue
(R170). -/
def placePower (n : Fin 48) (kind : CommandKind) (s : State) : State :=
  enqueue (newCommand (.slot n) kind none .ldm) (withdrawQueued (isPowerFor n) s)

/-- A MODULE ENABLE or DISABLE call for a rectifier (R42). -/
def isModuleCallFor (k : Fin 6) (rec : CommandRecord) : Bool :=
  (rec.kind == .enable || rec.kind == .disable) && rec.target == .rectifier k

/-- The ENABLE of a retry or of a clear for a rectifier (R39, R45). -/
def isRetryEnableFor (k : Fin 6) (rec : CommandRecord) : Bool :=
  rec.retry && rec.kind == .enable && rec.target == .rectifier k

/-- A TEST_LOAD call for a battery module (R69). -/
def isTestLoadFor (i : Fin 4) (rec : CommandRecord) : Bool :=
  (rec.kind == .testLoadOn || rec.kind == .testLoadOff) && rec.target == .battery i

/-- Place a MODULE ENABLE or DISABLE for a rectifier, withdrawing any queued one for it (R42); `retry` says that it is the ENABLE
of a retry or of a clear (R39, R45). -/
def placeModuleCall (k : Fin 6) (kind : CommandKind) (retry : Bool) (s : State) : State :=
  enqueue { newCommand (.rectifier k) kind none .rsv with retry := retry } (withdrawQueued (isModuleCallFor k) s)

/-- Place a TEST_LOAD call for a battery module at the tail of Q1 (R83, R86). -/
def placeTestLoad (i : Fin 4) (kind : CommandKind) (argument : Option Nat) (s : State) : State :=
  enqueue (newCommand (.battery i) kind argument .bmn) s

/-- Whether a call is queued in Q1 or Q0. -/
def Ulc.isQueued (u : Ulc) (pick : CommandRecord → Bool) : Bool := u.q0.any pick || u.q1.any pick

/-- Whether a call is in flight. -/
def Ulc.isInFlight (u : Ulc) (pick : CommandRecord → Bool) : Bool :=
  match u.inFlight with
  | some rec => pick rec
  | none => false

end Sys2Proof.Machine
end

