-- ==== Sys2Proof/Machine/Estimate.lean ====
section
/-! DEFINITION. Machine/Estimate.lean: the hold-up estimate (section 5.3, R104 to R109), as a function of the state; nothing here
changes the state. `Int./` with a positive divisor rounds toward minus infinity (*floor* of R1); the quotients of naturals
truncate. -/
namespace Sys2Proof.Machine

/-- The quotient of two naturals rounded up (R1). -/
def divUp (a b : Nat) : Nat := (a + b - 1) / b

/-- Qfloor of a module (R67): Cap × ReservePct / 100, truncated. -/
def State.qfloor (s : State) (i : Fin 4) : Nat := s.cfg.batteryCapacity[i] * s.cfg.reservePct / 100

/-- Whether the estimate counts a module: ONLINE or TESTING (R104). -/
def BatteryState.counted : BatteryState → Bool
  | .online => true
  | .testing => true
  | _ => false

/-- N, the number of counted modules (R104). -/
def State.countedModules (s : State) : Nat :=
  ((List.finRange 4).filter fun i => (s.batt i).state.counted).length

/-- Stage 1: the open-circuit voltage (R105). -/
def openCircuit (vMean : Nat) (iMean : Int) (resistance : Nat) : Int := vMean + iMean * resistance / 100

/-- Stage 2: the module current (R105). -/
def moduleCurrent (pBatt n : Nat) (voc : Int) : Nat :=
  if n = 0 ∨ pBatt = 0 ∨ voc ≤ 0 then 0 else min 65535 (divUp (pBatt * 100) (n * voc.toNat))

/-- Stage 3: the sagged voltage, held at 0; a module whose Voc is 0 or below has 0 (R105). -/
def saggedVoltage (voc : Int) (current resistance : Nat) : Nat :=
  if voc ≤ 0 then 0 else (voc - (current * resistance / 10 : Nat)).toNat

/-- Stages 1 to 5 for one counted module (R105, R106). -/
def moduleEstimate (s : State) (pBatt n : Nat) (i : Fin 4) : ModuleEstimate :=
  let b := s.batt i
  let vMean := s.sfe.latest.vMean[i]
  let iMean := s.sfe.latest.iMean[i]
  let voc := openCircuit vMean iMean b.resistance
  let current := moduleCurrent pBatt n voc
  let vs := saggedVoltage voc current b.resistance
  let sag := decide (voc ≤ 0 ∨ vs ≤ s.cfg.vcutModule)
  let usable := b.q - s.qfloor i
  { vMean, iMean, resistance := b.resistance, q := b.q, qfloor := s.qfloor i, voc, current, vs, usable
    energy := if sag then 0 else usable * vs * 36 / 1000
    sagLimited := sag }

/-- The position's estimate, absent for a module that is not counted (R109). -/
def positionEstimate (s : State) (pBatt n : Nat) (i : Fin 4) : Option ModuleEstimate :=
  if (s.batt i).state.counted then some (moduleEstimate s pBatt n i) else none

/-- E_total (R106). -/
def totalEnergy (positions : Vector (Option ModuleEstimate) 4) : Nat :=
  ((List.finRange 4).map fun i => match positions[i] with
    | some m => m.energy
    | none => 0).sum

/-- Stage 7: the ride time (R106). -/
def rideTime (eEff pBatt : Nat) : Nat := if pBatt = 0 then 65535 else min 65535 (eEff / pBatt)

/-- The Bridge Controller reads P_avail, as it does at each window completion and for every estimate (R46); BRIDGE_STATE carries the
figure last read (R102). -/
def readCapacity (s : State) : State := s.mapBrc fun b => { b with pAvailRead := s.rsv.pAvail }

/-- The parts both uses share, for a battery load (stages 1 to 7, R104 to R106). -/
def baseEstimate (s : State) (kind : EstimateKind) (load pBatt : Nat) : Estimate :=
  let n := s.countedModules
  let positions := Vector.ofFn (positionEstimate s pBatt n)
  let eTotal := totalEnergy positions
  let eEff := eTotal * s.cfg.efficiency / 256
  { kind, windowCount := s.sfe.latest.windowCount, load, pAvail := s.rsv.pAvail, pBatt, n, positions, eTotal, eEff
    tRide := rideTime eEff pBatt
    elapsed := none, pTarget := none, shedAmount := none, shedRequested := false }

/-- The coverage estimate for a load, held at 65,535 W (R104, R108). -/
def coverageEstimate (s : State) (load : Nat) : Estimate :=
  baseEstimate s .coverage (min 65535 load) (min 65535 load)

/-- The outage elapsed time in whole seconds, held at 65,535 (R90, R101). -/
def State.elapsedS (s : State) : Nat := min 65535 (s.brc.elapsedMs / 1000)

/-- Stage 8: T_need (R107). -/
def State.tNeed (s : State) : Nat := s.cfg.holdupRequiredS - s.elapsedS

/-- The bridging estimate with its shed target and shed amount (R104, R107). -/
def bridgingEstimate (s : State) : Estimate :=
  let load := min 65535 s.sfe.latest.pAvg
  let e := baseEstimate s .bridging load (load - s.rsv.pAvail)
  let need := s.tNeed
  let target := if need = 0 then none else some (s.rsv.pAvail + e.eEff / need)
  { e with
    elapsed := some (s.elapsedS, need)
    pTarget := target
    shedAmount := match target with
      | some t => if t < load then some (load - t) else none
      | none => none }

end Sys2Proof.Machine
end

