-- ==== Sys2Proof/Machine/LoadManager.lean ====
section
/-! DEFINITION. Machine/LoadManager.lean: the Load Manager (chapter 1): following a slot's unit, admission, shedding, isolation and
release, the ramp level and the outcomes of POWER calls. -/
namespace Sys2Proof.Machine

/-! ## A slot's unit (R6 to R8) -/

/-- What a good slot STATUS answer carries (R204). -/
structure SlotAnswer where
  power : UnitPower
  draw : Nat
deriving DecidableEq, Repr

/-- The overdraw limit: the allocation plus one tenth of it, truncated (R8). -/
def overdrawLimit (allocation : Nat) : Nat := allocation + allocation / 10

/-- The overdraw test of a STATUS answer, made in every state except VACANT (R8). -/
def testOverdraw (n : Fin 48) (draw : Nat) (s : State) : State :=
  if (s.slot n).state = .vacant then s
  else if overdrawLimit (s.slotCfg n).allocation < draw then
    if 10 ≤ (s.slot n).overdraw + 1 then
      post .overdraw n (u16 draw ++ u16 (s.slotCfg n).allocation) (mapSlot n (fun r => { r with overdraw := 0 }) s)
    else mapSlot n (fun r => { r with overdraw := r.overdraw + 1 }) s
  else mapSlot n (fun r => { r with overdraw := 0 }) s

/-- Set a slot's state alone. -/
def setSlotState (n : Fin 48) (state : SlotState) (s : State) : State :=
  mapSlot n (fun r => { r with state := state }) s

/-- A slot whose unit reports FAULT (R6, R7): FAULTED with SLOT_FAULT, cause REPORTED (R201). -/
def slotFaultReported (n : Fin 48) (s : State) : State :=
  post .slotFault n (u8 0) (setSlotState n .faulted s)

/-- A slot found powered (R6, R7): ON with SLOT_FOUND_ON. -/
def slotFoundOn (n : Fin 48) (s : State) : State := post .slotFoundOn n [] (setSlotState n .on s)

/-- The state a VACANT slot's unit calls for (R6): VACANT with allocation 0; ISOLATED in an isolated zone, with a POWER OFF when
the unit is powered; otherwise by the reported unit power. -/
def seedSlot (n : Fin 48) (power : UnitPower) (s : State) : State :=
  if (s.slotCfg n).allocation = 0 then s
  else if (s.zone (s.zoneOf n)).isolated then
    let s := setSlotState n .isolated s
    match power with
    | .starting | .ready => placePower n .powerOff s
    | .off | .fault => s
  else
    match power with
    | .off => setSlotState n .off s
    | .starting | .ready => slotFoundOn n s
    | .fault => slotFaultReported n s

/-- What a STATUS answer does to the slot state, by the table of R7. -/
def slotAnswerState (n : Fin 48) (power : UnitPower) (s : State) : State :=
  match (s.slot n).state, power with
  | .vacant, p => seedSlot n p s
  | .off, .starting | .off, .ready => slotFoundOn n s
  | .off, .fault | .energizing, .fault | .on, .fault => slotFaultReported n s
  | .energizing, .ready => setSlotState n .on s
  | .on, .off => post .slotOffReported n [] (setSlotState n (s.offState n) s)
  | .shed, .off | .isolated, .off => mapSlot n (fun r => { r with unconfirmed := false }) s
  | _, _ => s

/-- A good STATUS answer of a slot's unit (R7, R8): the fields, the state, the overdraw test. It is also what a unit that becomes
PRESENT is seeded from (R6): the slot is then VACANT. -/
def slotAnswer (n : Fin 48) (a : SlotAnswer) (s : State) : State :=
  testOverdraw n a.draw (slotAnswerState n a.power
    (mapSlot n (fun r => { r with draw := some a.draw, power := some a.power }) s))

/-- A slot's unit goes MISSING (R6). -/
def slotMissing (n : Fin 48) (s : State) : State :=
  leaveRestoreList n (mapSlot n (fun r =>
      { r with state := .vacant, draw := none, power := none, overdraw := 0, shedReason := none, unconfirmed := false })
    (withdrawQueued (isPowerFor n) s))

/-! ## Admission (R12 to R15) -/

/-- Admission check 4 (R13): OFF, or SHED for origin HOST or RESTORE. -/
def admissibleState (origin : AdmissionOrigin) : SlotState → Bool
  | .off => true
  | .shed => match origin with
    | .plan => false
    | .restore | .host => true
  | _ => false

/-- Admission check 7 (R13). -/
def fitsCapacity (s : State) (n : Fin 48) : Bool :=
  s.ldm.pComm + (s.slotCfg n).allocation ≤ s.rsv.pAvail - s.cfg.headroomW

/-- Admission check 9 (R13, R108). -/
def covered (s : State) (n : Fin 48) : Bool :=
  !s.cfg.coverageRequired ||
    s.cfg.holdupRequiredS ≤ (coverageEstimate s (s.sfe.latest.pAvg + (s.slotCfg n).allocation)).tRide

/-- The ten admission checks in order (R13): the reason of the first that fails, or `none` when all pass. -/
def admissionCheck (origin : AdmissionOrigin) (n : Fin 48) (s : State) : Option RefusalReason :=
  if !s.admitsLevel then some .level
  else if s.brc.state ≠ .grid then some .bridging
  else if (s.zone (s.zoneOf n)).isolated then some .zoneIsolated
  else if !admissibleState origin (s.slot n).state then some .state
  else if s.presence (.slot n) ≠ .present then some .link
  else if (s.zone (s.zoneOf n)).wet then some .zoneWet
  else if !fitsCapacity s n then some .capacity
  else if s.cfg.rampCeilingW < s.ldm.rampLevel + (s.slotCfg n).inrush then some .ramp
  else if !covered s n then some .coverage
  else if !s.roomInQ1 then some .queue
  else none

/-- The grant of an admission (R14): ENERGIZING, P_comm and RampLevel raised, off the Restore List, a POWER ON at the tail of
Q1. The charged inrush is written last, because an older POWER ON for the slot that the coalescing takes out of Q1 gives back the
amount of its own admission (R11). -/
def grantAdmission (n : Fin 48) (s : State) : State :=
  let inrush := (s.slotCfg n).inrush
  let s := mapSlot n (fun r => { r with state := .energizing, shedReason := none, unconfirmed := false }) s
  let s := s.mapLdm fun l => { l with rampLevel := l.rampLevel + inrush }
  let s := placePower n .powerOn (leaveRestoreList n s)
  mapSlot n (fun r => { r with chargedInrush := some inrush }) s

/-- The estimate of check 9, where it is made, is one for which the Bridge Controller reads P_avail (R46, R108). A refused admission
changes no state (R13), that figure neither (log entry 36). -/
def readForCoverage (s : State) : State := if s.cfg.coverageRequired then readCapacity s else s

/-- An admission asked and answered as one exchange (R13 to R15, R119): the refusal reason, or the state after the grant. -/
def admitSlot (origin : AdmissionOrigin) (n : Fin 48) (s : State) : Except RefusalReason State :=
  match admissionCheck origin n s with
  | some r => .error r
  | none => .ok (grantAdmission n (readForCoverage s))

/-! ## Shedding (R16 to R20) -/

/-- Whether a slot is a shed candidate (R17). -/
def isCandidate (reason : ShedReason) (s : State) (n : Fin 48) : Bool :=
  (s.slot n).state.committed && (reason == .depleted || (s.slotCfg n).cls != 3)

/-- The order candidates are taken in: rank, lowest first; slots of equal rank by slot number, highest first (R17). -/
def shedsBefore (s : State) (a b : Fin 48) : Bool :=
  (s.slotCfg a).rank < (s.slotCfg b).rank || ((s.slotCfg a).rank == (s.slotCfg b).rank && b.val < a.val)

/-- Insert a slot at its place in a list ordered by `before`. -/
def insertBy {α : Type} (before : α → α → Bool) (a : α) : List α → List α
  | [] => [a]
  | b :: l => if before a b then a :: b :: l else b :: insertBy before a l

/-- A list put in the order of `before`. -/
def sortBy {α : Type} (before : α → α → Bool) (l : List α) : List α := l.foldr (insertBy before) []

/-- The candidate list of a shed request, in order (R17). -/
def candidates (reason : ShedReason) (s : State) : List (Fin 48) :=
  sortBy (shedsBefore s) ((List.finRange 48).filter (isCandidate reason s))

/-- What a candidate counts: its reported draw, or its allocation when that is absent (R17). -/
def contributionOf (s : State) (n : Fin 48) : Nat :=
  match (s.slot n).draw with
  | some w => w
  | none => (s.slotCfg n).allocation

/-- The candidates taken from the front of the list until their sum reaches the amount, with that sum (R17). -/
def takeUntil (contribution : Fin 48 → Nat) (amount : Nat) : List (Fin 48) → Nat → List (Fin 48) × Nat
  | [], sum => ([], sum)
  | n :: rest, sum =>
    if amount ≤ sum then ([], sum)
    else
      let (taken, total) := takeUntil contribution amount rest (sum + contribution n)
      (n :: taken, total)

/-- Shed one slot taken by a shed request (R18). A POWER ON that has been sent and has returned to the head of Q1 counts as still
queued, and is withdrawn with no POWER OFF placed (log entry 35). -/
def shedSlot (reason : ShedReason) (n : Fin 48) (s : State) : State :=
  let wasEnergizing := (s.slot n).state = .energizing
  let queued := s.ulc.q1.any (isPowerOnFor n)
  let s := mapSlot n (fun r => { r with state := .shed, shedReason := some reason }) s
  let s := if wasEnergizing ∧ queued then withdrawQueued (isPowerOnFor n) s else placePower n .powerOff s
  pushRestoreList n s

/-- A shed request (R17 to R19): the state after, the sum shed and the shortfall. -/
def shedRequest (amount : Nat) (reason : ShedReason) (s : State) : State × Nat × Nat :=
  let (taken, sum) := takeUntil (contributionOf s) amount (candidates reason s) 0
  (s.forEach taken (shedSlot reason), sum, amount - sum)

/-- A slot whose queued POWER ON was withdrawn goes from ENERGIZING to OFF, or to VACANT (R20, R30, R131). -/
def unenergize (n : Fin 48) (s : State) : State :=
  if (s.slot n).state = .energizing then setSlotState n (s.offState n) s else s

/-- Withdraw a slot's POWER ON if it is still queued in Q1, and turn the slot back (R20, R131); one that has been sent and has
returned to the head of Q1 counts as still queued (log entry 35). -/
def withdrawPowerOn (n : Fin 48) (s : State) : State :=
  if s.ulc.q1.any (isPowerOnFor n) then unenergize n (withdrawQueued (isPowerOnFor n) s) else s

/-- The Bridge Controller's departure from GRID at the Load Manager (R20). -/
def loadManagerDeparture (s : State) : State := s.forEach (List.finRange 48) withdrawPowerOn

/-! ## Zones (R21 to R26) -/

/-- A slot becomes a member of an isolated zone (R22, R5): ISOLATED, off the Restore List, with a POWER OFF when it was
ENERGIZING, ON or SHED. A VACANT or ISOLATED slot is unchanged. -/
def isolateSlot (n : Fin 48) (s : State) : State :=
  let toIsolated := mapSlot n fun r => { r with state := .isolated, shedReason := none }
  match (s.slot n).state with
  | .energizing | .on | .shed => placePower n .powerOff (leaveRestoreList n (toIsolated s))
  | .off | .faulted => toIsolated s
  | .vacant | .isolated => s

/-- The slots of a zone, in ascending slot number. -/
def State.members (s : State) (z : Fin 8) : List (Fin 48) := (List.finRange 48).filter fun n => s.zoneOf n = z

/-- Whether an isolation turns a slot: every state but VACANT and ISOLATED (R22). -/
def SlotState.isolable : SlotState → Bool
  | .vacant | .isolated => false
  | _ => true

/-- Isolation of a zone (R22): marked and its shed line asserted; its slots taken in ascending slot number (the slots of step 3
place no call, so the queue reads the same whether they are taken with those of step 2 or after them); the notice with the
number of slots turned. A zone already isolated is unchanged. -/
def isolateZone (z : Fin 8) (s : State) : State :=
  if (s.zone z).isolated then s
  else
    let turned := (s.members z).filter fun n => (s.slot n).state.isolable
    let s := mapZone z (fun r => { r with isolated := true, line := true }) s
    post .zoneIsolated z (u8 turned.length) (s.forEach turned isolateSlot)

/-- The release of a dry isolated zone (R25). -/
def releaseZone (z : Fin 8) (s : State) : State :=
  let turned := (s.members z).filter fun n => (s.slot n).state = .isolated
  let s := mapZone z (fun r => { r with isolated := false }) s
  let s := s.forEach turned fun n s => setSlotState n (s.offState n) s
  post .zoneReleased z [] (mapZone z (fun r => { r with line := false }) s)

/-! ## Outcomes of POWER calls (R23, R24) -/

/-- The cause code of a failed call: NAK 0, retries exhausted 1, unit QUIET 2 (R201). -/
def CallOutcome.causeCode : CallOutcome → Nat
  | .failedNak => 0
  | .failedRetries => 1
  | _ => 2

/-- A POWER ON call's outcome (R23): the slot is acted on only while ENERGIZING, and the outcome goes on to the sequencer. -/
def powerOnOutcome (n : Fin 48) (o : CallOutcome) (s : State) : State :=
  let s :=
    if (s.slot n).state = .energizing then
      match o with
      | .failedNak => post .slotFault n (u8 1) (setSlotState n .faulted s)
      | .failedRetries | .failedQuiet => post .powerOnFailed n (u8 o.causeCode) (setSlotState n (s.offState n) s)
      | .acknowledged | .withdrawn => s
    else s
  reportPowerOn n o s

/-- A POWER OFF call's outcome (R24). -/
def powerOffOutcome (n : Fin 48) (o : CallOutcome) (s : State) : State :=
  match o with
  | .acknowledged => mapSlot n (fun r => { r with unconfirmed := false }) s
  | .failedNak | .failedRetries | .failedQuiet =>
    post .powerOffFailed n (u8 o.causeCode) (mapSlot n (fun r => { r with unconfirmed := true }) s)
  | .withdrawn => s

/-! ## The ramp level (R11) -/

/-- RampLevel's decay at an evaluation window completion (R11). -/
def decayRamp (s : State) : State := s.mapLdm fun l => { l with rampLevel := l.rampLevel - s.cfg.rampDecayW }

/-- The ceiling's hold on RampLevel after RampCeilingW is written (R11). -/
def clampRamp (s : State) : State := s.mapLdm fun l => { l with rampLevel := min l.rampLevel s.cfg.rampCeilingW }

/-! ## Slot settings (R4, R5) -/

/-- Replace a slot's settings in the working settings. -/
def putSlotCfg (n : Fin 48) (c : SlotSettings) (s : State) : State :=
  s.mapLvs fun l => { l with settings := { l.settings with slots := l.settings.slots.set n c } }

/-- A new allocation takes effect (R4): P_comm; an OFF slot with 0 goes to VACANT; a VACANT slot with a PRESENT unit takes the
state its unit calls for. The warm restart keeps such a slot VACANT (`seeds` is false): R30 lists no such change (log entry 20). -/
def applyAllocation (seeds : Bool) (n : Fin 48) (allocation : Nat) (s : State) : State :=
  let s := recomputeCommitted (putSlotCfg n { s.slotCfg n with allocation := allocation } s)
  match (s.slot n).state with
  | .off => if allocation = 0 then setSlotState n .vacant s else s
  | .vacant =>
    if seeds ∧ allocation ≠ 0 ∧ s.presence (.slot n) = .present then
      match (s.slot n).power with
      | some p => seedSlot n p s
      | none => s
    else s
  | _ => s

/-- A new zone takes effect (R5). -/
def applyZone (n : Fin 48) (z : Fin 8) (s : State) : State :=
  let old := s.zoneOf n
  let s := putSlotCfg n { s.slotCfg n with zone := z } s
  if old = z then s
  else if (s.zone z).isolated then isolateSlot n s
  else if (s.zone old).isolated ∧ (s.slot n).state = .isolated then setSlotState n (s.offState n) s
  else s

/-- The fields a write of a slot's settings carries; an absent field is not written (R202). -/
structure SlotWrite where
  allocation : Option Nat
  inrush : Option Nat
  zone : Option (Fin 8)
  cls : Option Nat
  rank : Option Nat
deriving DecidableEq, Repr

/-- The fields of a slot's settings that change the slot's state take effect, allocation first (R4, R5; log entry 12). -/
def applySlotState (seeds : Bool) (n : Fin 48) (w : SlotWrite) (s : State) : State :=
  let s := match w.allocation with
    | some a => applyAllocation seeds n a s
    | none => s
  match w.zone with
  | some z => applyZone n z s
  | none => s

/-- A write of a slot's settings takes effect (R4, R5). -/
def applySlot (seeds : Bool) (n : Fin 48) (w : SlotWrite) (s : State) : State :=
  let s := applySlotState seeds n w s
  putSlotCfg n { s.slotCfg n with
    inrush := w.inrush.getD (s.slotCfg n).inrush
    cls := w.cls.getD (s.slotCfg n).cls
    rank := w.rank.getD (s.slotCfg n).rank } s

/-- The write that a reload makes of a slot: the fields that change (R196, R30). -/
def slotReload (old new : SlotSettings) : SlotWrite where
  allocation := if old.allocation = new.allocation then none else some new.allocation
  inrush := some new.inrush
  zone := if old.zone = new.zone then none else some new.zone
  cls := some new.cls
  rank := some new.rank

end Sys2Proof.Machine
end

