-- ==== Sys2Proof/Machine/Rectifier.lean ====
section
/-! DEFINITION. Machine/Rectifier.lean: the Rectifier Supervisor (chapter 2): P_avail, states from answers, input loss, fault
retry and lockout, and the outcomes of MODULE calls. -/
namespace Sys2Proof.Machine

/-! ## Capacity (R46) -/

/-- A module's contribution (R32, R46). -/
def contributionFor (rating : Nat) (state : RectifierState) (derate : Nat) : Nat :=
  match state with
  | .online => rating
  | .derated => rating * derate / 16
  | _ => 0

/-- The largest of a list of contributions, 0 for none. -/
def largest (l : List Nat) : Nat := l.foldr max 0

/-- P_avail from the contributions (R46). -/
def capacityOf (redundancy : Redundancy) (contributions : List Nat) : Nat :=
  match redundancy with
  | .nPlus1 => contributions.sum - largest contributions
  | .none => contributions.sum

/-- The contributions as the records hold them. -/
def contributions (rects : Vector Rectifier 6) : List Nat := rects.toList.map (·.contribution)

/-- Recompute every contribution and P_avail (R46). -/
def recomputeCapacity (s : State) : State :=
  let rects := Vector.ofFn fun k : Fin 6 =>
    { s.rect k with contribution := contributionFor s.cfg.rectifierRating[k] (s.rect k).state (s.rect k).derate }
  s.mapRsv fun _ => ⟨rects, capacityOf s.cfg.redundancy (contributions rects)⟩

/-- Whether a change of state is a change among the running states, ONLINE and DERATED. -/
def RectifierState.running : RectifierState → Bool
  | .online => true
  | .derated => true
  | _ => false

/-- The RECTIFIER_STATE notice's data (R47, R201). -/
def rectifierNotice (old : RectifierState) (r : Rectifier) (pAvail : Nat) : List Byte :=
  u8 old.code ++ u8 r.state.code ++ u8 r.derate ++ [r.lastFault.getD 0] ++ u8 (flagBits [r.lastFault.isSome]) ++ u16 pAvail

/-- Replace a record: P_avail is recomputed, and a change of state then posts RECTIFIER_STATE (R46, R47). -/
def putRect (k : Fin 6) (r : Rectifier) (s : State) : State :=
  let old := (s.rect k).state
  let s := recomputeCapacity (s.mapRsv fun v => { v with rects := v.rects.set k r })
  if old = r.state then s else post .rectifierState k (rectifierNotice old r s.rsv.pAvail) s

/-- Change a record. -/
def mapRect (k : Fin 6) (f : Rectifier → Rectifier) (s : State) : State := putRect k (f (s.rect k)) s

/-! ## Fault entry, lockout and retry (R37 to R40) -/

/-- The feed phase of a module is PRESENT (R63). -/
def State.fed (s : State) (k : Fin 6) : Bool := (s.phase s.cfg.rectifierFeed[k]).state == .present

/-- A record in LOCKED_OUT (R40). -/
def Rectifier.lock (r : Rectifier) : Rectifier := { r with state := .lockedOut, retryPhase := none, retryTimer := none }

/-- A record whose retry waits out the delay (R37, R39). -/
def Rectifier.delay (ms : Nat) (r : Rectifier) : Rectifier := { r with retryPhase := some .delay, retryTimer := some ms }

/-- A record with its retry ended. -/
def Rectifier.endRetry (r : Rectifier) : Rectifier := { r with retryPhase := none, retryTimer := none }

/-- Fault entry (R37). -/
def faultEntry (k : Fin 6) (s : State) : State :=
  mapRect k (fun r =>
    if s.cfg.retryLimit ≤ r.retryCount then r.lock
    else if r.adminDisabled then { r.endRetry with state := .faulted }
    else { r with state := .faulted }.delay s.cfg.retryDelayMs) s

/-- A counted retry is made, or owed (R38, R39): with the phase PRESENT and room in Q1, the ENABLE is queued and the phase
becomes ENABLING; otherwise it is DUE. -/
def attemptRetry (k : Fin 6) (s : State) : State :=
  if s.fed k ∧ s.roomInQ1 then
    placeModuleCall k .enable true (mapRect k (fun r => { r with retryPhase := some .enabling, retryTimer := none }) s)
  else mapRect k (fun r => { r with retryPhase := some .due, retryTimer := none }) s

/-- Whether a module is FAULTED in a retry phase. -/
abbrev State.isRetrying (s : State) (k : Fin 6) (p : RetryPhase) : Bool :=
  (s.rect k).state == .faulted && (s.rect k).retryPhase == some p

/-- The owed attempt of a module in retry phase DUE (R38, R39). -/
def attemptIfDue (k : Fin 6) (s : State) : State :=
  if s.isRetrying k .due ∧ s.fed k ∧ s.roomInQ1 then attemptRetry k s else s

/-- The retry has failed (R39). -/
def retryFailed (k : Fin 6) (s : State) : State :=
  mapRect k (fun r => if r.retryCount < s.cfg.retryLimit then r.delay s.cfg.retryDelayMs else r.lock) s

/-- The retry-delay timer expires (R39). The expiry is an event of a running timer in DELAY or TRIAL. -/
def retryDelayExpired (k : Fin 6) (s : State) : State :=
  if (s.rect k).retryTimer.isSome then
    if s.isRetrying k .delay then
      if (s.rect k).retryCount < s.cfg.retryLimit then
        attemptRetry k (mapRect k (fun r => { r with retryCount := r.retryCount + 1 }) s)
      else mapRect k Rectifier.lock s
    else if s.isRetrying k .trial then retryFailed k s
    else s
  else s

/-! ## States from answers (R34 to R36) -/

/-- What a good rectifier STATUS answer carries (R204). -/
structure RectifierAnswer where
  outputOn : Bool
  fault : Bool
  faultCode : Byte
  derate : Nat
deriving DecidableEq, Repr

/-- The class of an answer (R35). -/
inductive AnswerClass where
  | on | offDisabled | off | fault
deriving DecidableEq, Repr

/-- Sort an answer into its class (R35). -/
def RectifierAnswer.cls (a : RectifierAnswer) (adminDisabled : Bool) : AnswerClass :=
  if a.fault then .fault else if a.outputOn then .on else if adminDisabled then .offDisabled else .off

/-- The wake call (R42): one MODULE ENABLE, with room in Q1 and no ENABLE for the module queued or in flight. -/
def wake (k : Fin 6) (s : State) : State :=
  let isEnable := fun rec : CommandRecord => rec.kind == .enable && rec.target == .rectifier k
  if s.roomInQ1 ∧ ¬ s.ulc.isQueued isEnable ∧ ¬ s.ulc.isInFlight isEnable then placeModuleCall k .enable false s else s

/-- A record entering ONLINE or DERATED by its derate code; the run-time starts at 0 unless the module was already running
(R35, R41). -/
def Rectifier.run (r : Rectifier) : Rectifier :=
  { r with
    state := if r.derate = 16 then .online else .derated
    runTime := if r.state.running then r.runTime else 0 }

/-- A good answer's class acts on the state while the feed phase is PRESENT (the table of R35). -/
def rectifierClassActs (k : Fin 6) (c : AnswerClass) (s : State) : State :=
  match (s.rect k).state, c with
  | .lockedOut, _ => s
  | .faulted, .on =>
    withdrawQueued (isRetryEnableFor k) (mapRect k (fun r => r.endRetry.run) s)
  | .faulted, .offDisabled => mapRect k (fun r => { r.endRetry with state := .standby }) s
  | .faulted, .off => s
  | .faulted, .fault => if s.isRetrying k .trial then retryFailed k s else s
  | .standby, .offDisabled => s
  | .standby, .off => s
  | _, .on => mapRect k Rectifier.run s
  | _, .offDisabled => mapRect k (fun r => { r with state := .standby }) s
  | _, .off => wake k (mapRect k (fun r => { r with state := .standby }) s)
  | _, .fault => faultEntry k s

/-- A record's fields taken from an answer: the derate code, read as 16 above 16, and the fault code of a fault (R35). -/
def Rectifier.take (r : Rectifier) (a : RectifierAnswer) : Rectifier :=
  { r with derate := min 16 a.derate, lastFault := if a.fault then some a.faultCode else r.lastFault }

/-- A good STATUS answer of a rectifier unit (R35, R36); also what a unit that becomes PRESENT is taken by (R34). -/
def rectifierAnswer (k : Fin 6) (a : RectifierAnswer) (s : State) : State :=
  let s := recomputeCapacity (s.mapRsv fun v => { v with rects := v.rects.set k (v.rects[k].take a) })
  if s.fed k then rectifierClassActs k (a.cls (s.rect k).adminDisabled) s
  else
    match (s.rect k).state with
    | .absent => mapRect k (fun r => { r with state := .inputLost, runTime := 0 }) s
    | _ => s

/-- A rectifier's unit goes MISSING (R34). -/
def rectifierMissing (k : Fin 6) (s : State) : State :=
  withdrawQueued (isModuleCallFor k) (mapRect k (fun r => { r.endRetry with state := .absent, runTime := 0 }) s)

/-! ## Input loss (R38) -/

/-- The feed phase of a module has left PRESENT (R38). -/
def inputLeft (k : Fin 6) (s : State) : State :=
  match (s.rect k).state with
  | .online | .derated | .standby => mapRect k (fun r => { r with state := .inputLost, runTime := 0 }) s
  | .faulted =>
    mapRect k (fun r =>
      if r.retryPhase = some .trial ∨ r.retryPhase = some .enabling then
        { r with retryPhase := some .due, retryTimer := none }
      else r) s
  | .absent | .inputLost | .lockedOut => s

/-- The condition of a module's feed phase as reported or found acts on the module (R33, R38). -/
def feedJudged (k : Fin 6) (s : State) : State := if s.fed k then attemptIfDue k s else inputLeft k s

/-- The AC Line Monitor's report that a phase has left or regained PRESENT (R38, R63), acting on the modules fed from it in ascending
order (log entry 37: R38 and R63 give none). -/
def phaseReported (p : Fin 3) (s : State) : State :=
  s.forEach ((List.finRange 6).filter fun k => s.cfg.rectifierFeed[k] = p) feedJudged

/-! ## Run-time (R41) -/

/-- One second in ONLINE or DERATED (R41). -/
def runTimeSecond (k : Fin 6) (s : State) : State :=
  if (s.rect k).state.running then
    mapRect k (fun r =>
      let t := min 65535 (r.runTime + 1)
      { r with runTime := t, retryCount := if s.cfg.retryWindowS ≤ t then 0 else r.retryCount }) s
  else s

/-- RetryLimit has been written (R41): a count above the limit is set to it, and a LOCKED_OUT module's count becomes it. -/
def applyRetryLimit (s : State) : State :=
  s.forEach (List.finRange 6) fun k s =>
    mapRect k (fun r =>
      { r with retryCount := if r.state = .lockedOut then s.cfg.retryLimit else min r.retryCount s.cfg.retryLimit }) s

/-! ## Outcomes of MODULE calls (R39, R42) -/

/-- A failed call that is not a retry posts RECTIFIER_CALL_FAILED (R42, R201). -/
def moduleCallFailed (k : Fin 6) (kind : CommandKind) (o : CallOutcome) (s : State) : State :=
  post .rectifierCallFailed k (u8 (if kind = .enable then 0 else 1) ++ u8 o.causeCode) s

/-- The outcome of a MODULE ENABLE or DISABLE call (R39, R42). A retry's ENABLE acts on a module that is FAULTED in retry phase
ENABLING and changes nothing otherwise (R39); any other call changes no state, and its failure is posted (R42). -/
def moduleOutcome (k : Fin 6) (kind : CommandKind) (retry : Bool) (o : CallOutcome) (s : State) : State :=
  match o with
  | .withdrawn => s
  | .acknowledged =>
    if retry ∧ s.isRetrying k .enabling then
      if s.fed k then
        mapRect k (fun r => { r with retryPhase := some .trial, retryTimer := some s.cfg.retryDelayMs }) s
      else mapRect k (fun r => { r with retryPhase := some .due, retryTimer := none }) s
    else s
  | .failedNak | .failedRetries | .failedQuiet =>
    if retry then (if s.isRetrying k .enabling then retryFailed k s else s)
    else moduleCallFailed k kind o s

end Sys2Proof.Machine
end

