-- ==== Sys2Proof/Machine/Battery.lean ====
section
/-! DEFINITION. Machine/Battery.lean: the Battery Monitor (chapter 4): charge counting, seeding and answers, temperature and faults,
the depleted marking, and the impedance test with its load release. -/
namespace Sys2Proof.Machine

/-! ## Records and BATTERY_STATE (R79) -/

/-- Change a record without a change of its state. -/
def mapBatt (i : Fin 4) (f : Battery → Battery) (s : State) : State :=
  s.mapBmn fun m => { m with batts := m.batts.set i (f m.batts[i]) }

/-- Change the impedance test context. -/
def mapTest (f : TestContext → TestContext) (s : State) : State := s.mapBmn fun m => { m with test := f m.test }

/-- Post BATTERY_STATE for a change from `old` to the state the module now has (R79, R201). -/
def postBattery (i : Fin 4) (old : BatteryState) (cause : BatteryCause) (s : State) : State :=
  post .batteryState i
    (u8 old.code ++ u8 (s.batt i).state.code ++ u8 cause.ctorIdx ++ u16 (s.batt i).q ++ u16 (s.qfloor i)) s

/-- Turn a module to a state and post the change (R79); a module already in it is unchanged. -/
def turnBatt (i : Fin 4) (state : BatteryState) (cause : BatteryCause) (s : State) : State :=
  let old := (s.batt i).state
  if old = state then s else postBattery i old cause (mapBatt i (fun b => { b with state := state }) s)

/-! ## Depleted marking (R77, R78) -/

/-- The depleted marking of one module (R77). A module that meets both conditions is marked for its reserve, the first of the
two. -/
def markDepleted (i : Fin 4) (s : State) : State :=
  if s.bmn.lastBridge = .bridging ∧ (s.batt i).state = .online then
    if (s.batt i).q ≤ s.qfloor i then turnBatt i .depleted .reserve s
    else if (s.batt i).cutoff then turnBatt i .depleted .cutoff s
    else s
  else s

/-- The depleted marking of every module (R76), in ascending order (log entry 37: R76 gives none). -/
def markAll (s : State) : State := s.forEach (List.finRange 4) markDepleted

/-! ## The end of a test and the load release (R86 to R88) -/

/-- Whether a phase is that of a running test (R87). -/
def TestPhase.running : TestPhase → Bool
  | .idle | .closing => false
  | _ => true

/-- The context goes to IDLE (R86, R88). -/
def testIdle (s : State) : State := mapTest (fun t => { t with module := none, phase := .idle, releaseOwed := false }) s

/-- The context goes to CLOSING (R88), with the frame count of the phase that ended (log entry 39). -/
def testClosing (s : State) : State := mapTest (fun t => { t with phase := .closing }) s

/-- Place a TEST_LOAD OFF, or owe it when Q1 has no room (R86). -/
def releaseLoad (i : Fin 4) (s : State) : State :=
  if s.roomInQ1 then
    placeTestLoad i .testLoadOff none (mapTest (fun t => { t with releaseOwed := false }) s)
  else mapTest (fun t => { t with releaseOwed := true }) s

/-- A TEST_LOAD call of a kind for a module. -/
def isTestCall (i : Fin 4) (kind : CommandKind) (rec : CommandRecord) : Bool := rec.kind == kind && rec.target == .battery i

/-- Whether a TEST_LOAD call of a kind for a module is queued or in flight. -/
def State.testCallOutstanding (s : State) (i : Fin 4) (kind : CommandKind) : Bool :=
  s.ulc.isQueued (isTestCall i kind) || s.ulc.isInFlight (isTestCall i kind)

/-- The load release after an abort in a phase (R88). A TEST_LOAD ON that has been sent and has returned to the head of Q1 counts as
still queued, and is withdrawn with no TEST_LOAD OFF placed (log entry 35). -/
def releaseAfterAbort (i : Fin 4) (phase : TestPhase) (s : State) : State :=
  match phase with
  | .loading =>
    if s.ulc.isQueued (isTestCall i .testLoadOn) then testIdle (withdrawQueued (isTestCall i .testLoadOn) s)
    else if s.ulc.isInFlight (isTestCall i .testLoadOn) then testClosing s
    else testIdle s
  | .settle | .measure => testClosing (releaseLoad i s)
  | .releasing =>
    if s.testCallOutstanding i .testLoadOff then testClosing s else testClosing (releaseLoad i s)
  | .idle | .baseline | .releaseSettle | .closing => testIdle s

/-- The IMPEDANCE_RESULT notice's data (R201). -/
def resultNotice (t : TestRecord) (resistance : Nat) : List Byte :=
  u8 t.outcome.ctorIdx ++ orFF (t.cause.map (·.ctorIdx)) ++ u8 (flagBits [t.rNew.isSome, t.delta.isSome]) ++
    u16 (t.rNew.getD 0) ++ s16 (t.delta.getD (0, 0)).1 ++ s16 (t.delta.getD (0, 0)).2 ++ u16 resistance

/-- A test ends on a module with a result: it is kept as the module's latest, and posted (R80, R86, R87). -/
def postResult (i : Fin 4) (t : TestRecord) (s : State) : State :=
  let s := mapBatt i (fun b => { b with latest := some t }) s
  post .impedanceResult i (resultNotice t (s.batt i).resistance) s

/-- Whether an abort leaves no load to release, because the call that failed was the last (R88). -/
def AbortCause.noRelease : AbortCause → Bool
  | .callFailed | .queue | .releaseFailed | .missing => true
  | _ => false

/-- A running test is aborted (R87, R88): the module takes `state` with BATTERY_STATE, the result is posted, the pending one
discarded, and the load is released. A context that runs no test is unchanged. -/
def abortTest (cause : AbortCause) (state : BatteryState) (stateCause : BatteryCause) (s : State) : State :=
  match s.bmn.test.module with
  | some i =>
    let phase := s.bmn.test.phase
    if phase.running then
      let s := turnBatt i state stateCause (mapTest (fun t => { t with pending := none }) s)
      let s := postResult i ⟨.aborted, some cause, none, none⟩ s
      if cause.noRelease then testIdle s else releaseAfterAbort i phase s
    else s
  | none => s

/-- An abort that leaves the module ONLINE (R87). -/
def abortOnline (cause : AbortCause) (s : State) : State := abortTest cause .online .testEnd s

/-! ## Faults (R75) -/

/-- A module enters FAULTED (R75): a module under test has its test aborted. -/
def batteryFault (i : Fin 4) (cause : BatteryCause) (s : State) : State :=
  match (s.batt i).state with
  | .testing => abortTest .fault .faulted cause s
  | .online | .depleted => turnBatt i .faulted cause s
  | .absent | .faulted => s

/-- The test for exit from FAULTED (R75): ONLINE, at once DEPLETED where the marking applies, then BATTERY_STATE with the state
reached. -/
def batteryFaultExit (i : Fin 4) (s : State) : State :=
  if (s.batt i).state = .faulted ∧ (s.batt i).reportedFault = false ∧ (s.batt i).tempFault = false then
    postBattery i .faulted .cleared (markDepleted i (mapBatt i (fun b => { b with state := .online }) s))
  else s

/-! ## Presence and answers (R69 to R71) -/

/-- What a good battery STATUS answer carries (R204). -/
structure BatteryAnswer where
  percent : Nat
  full : Bool
  cutoff : Bool
  fault : Bool
deriving DecidableEq, Repr

/-- A record's fields taken from an answer; a percent above 100 is read as 100 (R70, R71). -/
def Battery.take (a : BatteryAnswer) (b : Battery) : Battery :=
  { b with percent := some (min 100 a.percent), full := a.full, cutoff := a.cutoff, reportedFault := a.fault }

/-- The charge a module is seeded with (R70). -/
def seedCharge (cap : Nat) (a : BatteryAnswer) : Nat := if a.full then cap else cap * min 100 a.percent / 100

/-- A battery unit becomes PRESENT: the module is seeded from the answer (R70). -/
def batterySeed (i : Fin 4) (a : BatteryAnswer) (s : State) : State :=
  let old := (s.batt i).state
  let s := mapBatt i (fun b =>
    { b.take a with
      q := seedCharge s.cfg.batteryCapacity[i] a
      r := 0
      seeded := true
      resistance := s.cfg.defaultR
      measuredAt := none
      state := if a.fault then .faulted else .online }) s
  postBattery i old .present (markDepleted i s)

/-- A later good STATUS answer (R71). -/
def batteryAnswer (i : Fin 4) (a : BatteryAnswer) (s : State) : State :=
  let s := mapBatt i (fun b => b.take a) s
  let s := if a.full then mapBatt i (fun b => { b with q := s.cfg.batteryCapacity[i], r := 0 }) s else s
  let s := if (s.batt i).state = .faulted then batteryFaultExit i s
    else if a.fault then batteryFault i .reported s else s
  if a.cutoff then markDepleted i s else s

/-- A battery unit goes MISSING (R69). A test on the module ends; a context closing on it is dropped (R88). -/
def batteryMissing (i : Fin 4) (s : State) : State :=
  let s := mapBatt i (fun b =>
    { b with
      seeded := false, percent := none, full := false, cutoff := false, reportedFault := false
      tempFault := false, outCount := 0, inCount := 0 }) s
  let s := if s.bmn.test.module = some i then
      (if s.bmn.test.phase = .closing then testIdle s else abortTest .missing .absent .missing s)
    else s
  withdrawQueued (isTestLoadFor i) (turnBatt i .absent .missing s)

/-! ## Charge counting (R72, R73) -/

/-- One frame's current counted into a module's residue and charge (R72). `passes` is how many whole mAh the residue has passed,
at most one from a residue within its range; a pass that could not move a mAh leaves the residue at 0. -/
def countCharge (cap : Nat) (current : Int) (b : Battery) : Battery :=
  let r := b.r + current
  if 36000 ≤ r then
    let passes := (r / 36000).toNat
    { b with q := b.q - passes, r := if b.q < passes then 0 else r - 36000 * passes }
  else if r ≤ -36000 then
    let passes := (-r / 36000).toNat
    { b with q := b.q + min passes (cap - b.q), r := if cap - b.q < passes then 0 else r + 36000 * passes }
  else { b with r := r }

/-- A sense frame's charge counting for one module (R72, R73). -/
def countModule (frame : SenseFrame) (i : Fin 4) (s : State) : State :=
  if (s.batt i).state = .absent then s
  else
    let before := (s.batt i).q
    let s := mapBatt i (countCharge s.cfg.batteryCapacity[i] frame.ibm[i]) s
    if (s.batt i).q < before then markDepleted i s else s

/-! ## Temperature (R74) -/

/-- Whether a window-mean temperature lies within the fixed limits (R74). -/
def withinTemperature (t : Int) : Bool := -5 ≤ t && t ≤ 60

/-- The temperature test of one module at a window completion (R74). -/
def testTemperature (i : Fin 4) (s : State) : State :=
  let b := s.batt i
  let within := withinTemperature s.sfe.latest.tMean[i]
  if b.state = .absent then s
  else if b.tempFault then
    if within then
      if 10 ≤ b.inCount + 1 then
        batteryFaultExit i (mapBatt i (fun b => { b with tempFault := false, outCount := 0, inCount := 0 }) s)
      else mapBatt i (fun b => { b with inCount := b.inCount + 1 }) s
    else mapBatt i (fun b => { b with inCount := 0 }) s
  else if within then mapBatt i (fun b => { b with outCount := 0 }) s
  else if 10 ≤ b.outCount + 1 then
    batteryFault i .temperature (mapBatt i (fun b => { b with tempFault := true, outCount := 0, inCount := 0 }) s)
  else mapBatt i (fun b => { b with outCount := b.outCount + 1 }) s

/-- The Battery Monitor at a window completion (R74): the modules in ascending order (log entry 37). -/
def batteryWindow (s : State) : State := s.forEach (List.finRange 4) testTemperature

/-! ## Reports from the other blocks (R76, R87) -/

/-- A report of the bridge state (R76): the modules in ascending order (log entry 37). -/
def batteryBridgeReport (old new : BridgeState) (s : State) : State :=
  let s := s.mapBmn fun m => { m with lastBridge := new }
  let s := if old = .grid ∧ new ≠ .grid then abortOnline .bridge s else s
  match new with
  | .bridging => markAll s
  | .grid =>
    s.forEach (List.finRange 4) fun i s => if (s.batt i).state = .depleted then turnBatt i .online .grid s else s
  | .recovering | .depleted => s

/-- A shelf AC state report (R64, R87): one that leaves GOOD aborts a running test. -/
def batteryAcReport (old new : AcState) (s : State) : State :=
  if old = .good ∧ new ≠ .good then abortOnline .ac s else s

/-! ## The impedance test (R81 to R86) -/

/-- The least charge a module must hold to be tested (R82). -/
def State.testMinimum (s : State) (i : Fin 4) : Nat := s.cfg.batteryCapacity[i] * s.cfg.testMinSocPct / 100

/-- START_IMPEDANCE_TEST's State check (R82). -/
def State.mayTest (s : State) (i : Fin 4) : Bool :=
  s.bmn.lastBridge == .grid && s.acm.shelf == .good && (s.batt i).state == .online && s.testMinimum i ≤ (s.batt i).q

/-- A test begins on a module (R82). -/
def beginTest (i : Fin 4) (s : State) : State :=
  mapTest (fun _ => { TestContext.reset with module := some i, phase := .baseline }) (turnBatt i .testing .testStart s)

/-- A sense frame in the phases that count and sum frames (R83, R84, R86). -/
def testFrame (frame : SenseFrame) (s : State) : State :=
  match s.bmn.test.module with
  | some i =>
    match s.bmn.test.phase with
    | .baseline | .measure =>
      mapTest (fun t =>
        { t with count := t.count + 1, vSum := t.vSum + frame.vbm[i], iSum := t.iSum + frame.ibm[i] }) s
    | .settle | .releaseSettle => mapTest (fun t => { t with count := t.count + 1 }) s
    | _ => s
  | none => s

/-- The end of BASELINE, which its 50th frame brings (R83). The frame count stays at 50 in LOADING (log entry 39). -/
def baselineEnd (s : State) : State :=
  match s.bmn.test.module with
  | some i =>
    if s.bmn.test.phase = .baseline ∧ 50 ≤ s.bmn.test.count then
      let s := mapTest (fun t => { t with base := some (t.vSum / 50, t.iSum.tdiv 50) }) s
      if s.roomInQ1 then
        placeTestLoad i .testLoadOn (some s.cfg.testCurrentA) (mapTest (fun t => { t with phase := .loading }) s)
      else abortOnline .queue s
    else s
  | none => s

/-- The end of SETTLE, which its 20th frame brings (R84). -/
def settleEnd (s : State) : State :=
  if s.bmn.test.phase = .settle ∧ 20 ≤ s.bmn.test.count then
    mapTest (fun t => { t with phase := .measure, count := 0, vSum := 0, iSum := 0 }) s
  else s

/-- A quotient by a positive divisor rounded to nearest, an exact half upward (R1). -/
def roundNearest (a b : Int) : Int := (2 * a + b) / (2 * b)

/-- ΔV and ΔI of the two pairs of means (R85). -/
def testDelta (base loaded : Nat × Int) : Int × Int := ((base.1 : Int) - loaded.1, loaded.2 - base.2)

/-- The pending result of a test (R85). -/
def testResult (delta : Int × Int) : PendingResult :=
  if delta.2 < 50 then .inconclusive
  else
    let r := roundNearest (delta.1 * 100) delta.2
    if 1 ≤ r ∧ r ≤ 500 then .stored r.toNat else .inconclusive

/-- The end of MEASURE, which its 50th frame brings (R84 to R86). The frame count stays at 50 in RELEASING (log entry 39). -/
def measureEnd (s : State) : State :=
  match s.bmn.test.module with
  | some i =>
    if s.bmn.test.phase = .measure ∧ 50 ≤ s.bmn.test.count then
      let s := mapTest (fun t =>
        let loaded := (t.vSum / 50, t.iSum.tdiv 50)
        { t with
          loaded := some loaded
          pending := some (testResult (testDelta (t.base.getD (0, 0)) loaded))
          phase := .releasing }) s
      releaseLoad i s
    else s
  | none => s

/-- An owed TEST_LOAD OFF is placed when Q1 has room (R86). -/
def placeOwedRelease (s : State) : State :=
  match s.bmn.test.module with
  | some i => if s.bmn.test.releaseOwed ∧ s.roomInQ1 then releaseLoad i s else s
  | none => s

/-- The end of RELEASE_SETTLE, which its 20th frame brings, with which the test ends (R86). -/
def releaseSettleEnd (s : State) : State :=
  match s.bmn.test.module with
  | some i =>
    if s.bmn.test.phase = .releaseSettle ∧ 20 ≤ s.bmn.test.count then
      let t := s.bmn.test
      let delta := some (testDelta (t.base.getD (0, 0)) (t.loaded.getD (0, 0)))
      let (result, s) := match t.pending with
        | some (.stored r) =>
          ((⟨.stored, none, some r, delta⟩ : TestRecord),
            mapBatt i (fun b => { b with resistance := r, measuredAt := some s.partTime }) s)
        | _ => (⟨.inconclusive, none, none, delta⟩, s)
      testIdle (postResult i result (turnBatt i .online .testEnd s))
    else s
  | none => s

/-- Whether a call's outcome is a failure (R172). -/
def CallOutcome.failed : CallOutcome → Bool
  | .failedNak | .failedRetries | .failedQuiet => true
  | _ => false

/-- The outcome of a TEST_LOAD call (R84, R86, R88). It acts only on a context that stands on the call's module. An ON acknowledged in
CLOSING sets load acknowledged too (log entry 39). -/
def testLoadOutcome (i : Fin 4) (kind : CommandKind) (o : CallOutcome) (s : State) : State :=
  if s.bmn.test.module = some i then
    match s.bmn.test.phase, kind with
    | .loading, .testLoadOn =>
      if o = .acknowledged then mapTest (fun t => { t with loadAcked := true, phase := .settle, count := 0 }) s
      else if o.failed then abortOnline .callFailed s else s
    | .closing, .testLoadOn =>
      if o = .acknowledged then releaseLoad i (mapTest (fun t => { t with loadAcked := true }) s)
      else if o.failed then testIdle s else s
    | .releasing, .testLoadOff =>
      if o = .acknowledged then mapTest (fun t => { t with phase := .releaseSettle, count := 0 }) s
      else if o.failed then abortOnline .releaseFailed s else s
    | .closing, .testLoadOff =>
      if o = .acknowledged then testIdle s
      else if o.failed then testIdle (post .testReleaseFailed i [] s) else s
    | _, _ => s
  else s

/-- The warm restart at the Battery Monitor, Q1 already cleared (R89): a running test is aborted; a context CLOSING that lost a
queued OFF places it again, and one that lost an ON returned to Q1 for a retry goes to IDLE (log entry 39). -/
def batteryRestart (offWasQueued : Bool) (s : State) : State :=
  match s.bmn.test.module with
  | some i =>
    if s.bmn.test.phase.running then abortOnline .restart s
    else if s.bmn.test.phase = .closing ∧
        ¬ (s.ulc.isInFlight (isTestLoadFor i) = true) ∧ s.bmn.test.releaseOwed = false then
      if offWasQueued ∨ s.bmn.test.loadAcked then releaseLoad i s else testIdle s
    else s
  | none => s

/-! ## Settings (R68) -/

/-- BatteryCapacity[i] has been written (R68). -/
def applyCapacity (i : Fin 4) (s : State) : State :=
  markDepleted i (mapBatt i (fun b =>
    if s.cfg.batteryCapacity[i] < b.q then { b with q := s.cfg.batteryCapacity[i], r := max 0 b.r } else b) s)

/-- DefaultR has been written (R68). -/
def applyDefaultR (s : State) : State :=
  s.forEach (List.finRange 4) fun i s =>
    mapBatt i (fun b => if b.measuredAt = none then { b with resistance := s.cfg.defaultR } else b) s

end Sys2Proof.Machine
end

