-- ==== Sys2Proof/Machine/Sequencer.lean ====
section
/-! DEFINITION. Machine/Sequencer.lean: the Power-Up Sequencer (chapter 6): steps, admissions, holds, pause, resume and cancel, and the
restore run. -/
namespace Sys2Proof.Machine

/-! ## Notices (R126, R201) -/

/-- The id of ACTIVE, where it holds a plan. -/
def Seq.planId (q : Seq) : Option (BitVec 16) := q.active.map (·.id)

/-- The id of ACTIVE as a notice carries it, 0 when absent. -/
def Seq.planIdBytes (q : Seq) : List Byte := u16 ((q.planId.getD 0).toNat)

/-- The slot at the cursor of the step being run (R119). -/
def Seq.slotAtCursor (q : Seq) : Option (Fin 48) :=
  match q.step with
  | some p => p.slots[q.cursor]?
  | none => none

/-- Post SEQ_HOLD for the hold in force: the slot at the cursor, absent at a step boundary (R126). -/
def postHold (r : HoldReason) (s : State) : State :=
  let slot := if s.seq.stepBegun then s.seq.slotAtCursor else none
  post .seqHold 0 (u8 0 ++ u8 r.ctorIdx ++ u8 1 ++ s.seq.planIdBytes ++ u8 s.seq.stepIndex ++ orFF (slot.map (·.val))) s

/-- Go to HELD with a reason, posting SEQ_HOLD on entering HELD and on a change of reason (R126). `prior` is the reason the
sequencer was HELD for until now. -/
def hold (prior : Option HoldReason) (r : HoldReason) (s : State) : State :=
  let s := s.mapSeq fun q => { q with state := .held, holdReason := some r }
  if prior = some r then s else postHold r s

/-- The hold reason in force while HELD. -/
def Seq.heldFor (q : Seq) : Option HoldReason := if q.state = .held then q.holdReason else none

/-- Post STEP_SLOT_SKIPPED (R122, R201). -/
def postSkipped (n : Fin 48) (kind reason : Nat) (s : State) : State :=
  post .stepSlotSkipped n (s.seq.planIdBytes ++ u8 s.seq.stepIndex ++ u8 kind ++ u8 reason) s

/-! ## Running a step (R121 to R123) -/

/-- Every slot of the step has been judged: AWAITING with the await timer started and the condition tested, or SETTLING for
await NONE (R122, R123). -/
def finishJudging (p : PlanStep) (s : State) : State :=
  match p.await with
  | .none => enterSettling p s
  | .ack | .ready =>
    testAwait (s.mapSeq fun q => { q with state := .awaiting, holdReason := none, awaitTimer := some p.readyTimeoutMs })

/-- The sequencer stands in RUNNING at its cursor; with no slot left to judge it goes straight on (R122). -/
def enterRunning (s : State) : State :=
  let s := s.mapSeq fun q => { q with state := .running, holdReason := none }
  match s.seq.step with
  | some p => if p.slots.length ≤ s.seq.cursor then finishJudging p s else s
  | none => s

/-- Begin the step at the step index (R121). -/
def beginStep (s : State) : State :=
  let prior := s.seq.heldFor
  let s := s.mapSeq fun q =>
    { q with cursor := 0, admitted := [], awaitTimer := none, settleTimer := none, stepBegun := false }
  if s.seq.bridgeHold then hold prior .bridging s
  else if s.seq.hostSilent then hold prior .hostSilent s
  else enterRunning (s.mapSeq fun q => { q with stepBegun := true })

/-- The cursor advances (R122). -/
def advanceCursor (s : State) : State := enterRunning (s.mapSeq fun q => { q with cursor := q.cursor + 1 })

/-- The hold reason an admission refusal gives; the other refusals pass the slot by (R122). -/
def RefusalReason.holdReason : RefusalReason → Option HoldReason
  | .level => some .level
  | .bridging => some .bridging
  | .capacity => some .capacity
  | .ramp => some .ramp
  | .coverage => some .coverage
  | .queue => some .queue
  | .link => some .link
  | .state | .zoneIsolated | .zoneWet => none

/-- Ask the Load Manager for admission of the slot at the cursor with origin PLAN, and apply its decision (R122). -/
def askAdmission (prior : Option HoldReason) (n : Fin 48) (s : State) : State :=
  match admitSlot .plan n s with
  | .ok s => advanceCursor (s.mapSeq fun q => { q with admitted := q.admitted ++ [(n, false)] })
  | .error r =>
    match r.holdReason with
    | some h => hold prior h s
    | none => advanceCursor (postSkipped n 1 r.code s)

/-- Judge one slot in RUNNING (the table of R122). -/
def judgeSlotAt (prior : Option HoldReason) (n : Fin 48) (s : State) : State :=
  match (s.slot n).state with
  | .energizing | .on => advanceCursor s
  | .vacant | .faulted | .isolated => advanceCursor (postSkipped n 0 (s.slot n).state.code s)
  | .off | .shed =>
    if (s.zone (s.zoneOf n)).wet then advanceCursor (postSkipped n 1 RefusalReason.zoneWet.code s)
    else askAdmission prior n s

/-- Judge the slot at the cursor (R122), a hold for `prior` having just been left by a re-attempt. -/
def judgeCursor (prior : Option HoldReason) (s : State) : State :=
  match s.seq.slotAtCursor with
  | some n => judgeSlotAt prior n s
  | none => enterRunning s

/-- SEQ_JUDGE_SLOT: in RUNNING, the slot at the cursor is judged (R122). -/
def seqJudgeSlot (s : State) : State := if s.seq.state = .running then judgeCursor none s else s

/-- A re-attempt of a held admission: RUNNING at the cursor, and the slot judged again (R126). -/
def reattempt (prior : Option HoldReason) (s : State) : State :=
  judgeCursor prior (s.mapSeq fun q => { q with state := .running, holdReason := none })

/-! ## Starting and ending a plan (R120, R125) -/

/-- Promote a READY staged plan (R120). -/
def promote (p : Plan) (s : State) : State :=
  let s := s.mapSeq fun q =>
    { q with active := some p, staged := .empty, startPending := false, startupStaged := false, stepIndex := 0 }
  beginStep (post .planStarted 0 (u16 p.id.toNat) s)

/-- ACTIVE is free: STAGED is promoted if it is READY with start pending, otherwise the sequencer is IDLE (R120, R125, R134). The step
index, the slot cursor and step begun keep the values the ended plan left (log entry 38). -/
def nextPlan (s : State) : State :=
  let s := s.mapSeq fun q => { q with state := .idle, holdReason := none }
  match s.seq.staged with
  | .ready p => if s.seq.startPending then promote p s else s
  | _ => s

/-- The ACTIVE plan is complete (R125). With no step left to be run the admitted set is empty, so that a cancel in IDLE withdraws
nothing (R131). -/
def completePlan (s : State) : State :=
  nextPlan ((post .planDone 0 s.seq.planIdBytes s).mapSeq fun q => { q with active := none, admitted := [] })

/-- SETTLE_TIMER_EXPIRY: the settle timer expires in SETTLING (R125). -/
def settleTimerExpiry (s : State) : State :=
  if s.seq.state = .settling ∧ s.seq.settleTimer.isSome then
    let s := s.mapSeq fun q => { q with settleTimer := none }
    match s.seq.active with
    | some p =>
      if s.seq.stepIndex + 1 < p.steps.length then
        beginStep (s.mapSeq fun q => { q with stepIndex := q.stepIndex + 1 })
      else completePlan s
    | none => s
  else s

/-- The slots of the admitted set not yet satisfied (R124). -/
def unsatisfied (p : PlanStep) (s : State) : List (Fin 48) :=
  (s.seq.admitted.filter fun e => !entrySatisfied p.await s e).map (·.1)

/-- AWAIT_TIMER_EXPIRY: the await timer expires in AWAITING (R124). -/
def awaitTimerExpiry (s : State) : State :=
  if s.seq.state = .awaiting ∧ s.seq.awaitTimer.isSome then
    match s.seq.step with
    | some p =>
      let late := unsatisfied p s
      let s := post .stepTimeout 0
        (s.seq.planIdBytes ++ u8 s.seq.stepIndex ++ u8 p.onTimeout.ctorIdx ++ u8 late.length ++
          late.flatMap fun n => u8 n) s
      let s := s.mapSeq fun q => { q with awaitTimer := none }
      match p.onTimeout with
      | .skip => enterSettling p s
      | .hold => hold none .readyTimeout s
    | none => s
  else s

/-! ## The restore run (R132 to R134) -/

/-- Change the restore run record. -/
def mapRestore (f : RestoreRun → RestoreRun) (s : State) : State := s.mapSeq fun q => { q with restore := q.restore.map f }

/-- A hold with reason BRIDGING is lifted (R127): on with a begun step from the cursor, or the step begun again. -/
def liftBridging (s : State) : State := if s.seq.stepBegun then enterRunning s else beginStep s

/-- The restore run ends (R134): RESTORE_DONE; a kept HELD with reason BRIDGING is lifted, any other kept state is resumed, and
with none the sequencer is IDLE or goes on to a staged plan. -/
def endRestore (r : RestoreRun) (s : State) : State :=
  let s := (post .restoreDone 0 (u8 r.count) s).mapSeq fun q => { q with restore := none }
  match r.kept with
  | none => nextPlan s
  | some k =>
    let s := s.mapSeq fun q => { q with state := k }
    if k = .held ∧ s.seq.holdReason = some .bridging then liftBridging s else testAwait s

/-- Post SEQ_HOLD for the restore run (R133, R201). -/
def postRestoreHold (n : Fin 48) (r : RefusalReason) (s : State) : State :=
  post .seqHold 0 (u8 1 ++ u8 r.code ++ u8 0 ++ u16 0 ++ u8 0 ++ u8 n) s

/-- Phase ADMIT of the restore run (R133): the head of the Restore List is put to admission, or the run ends. `prior` is the
reason the run was HELD for until now. -/
def restoreAdmit (prior : Option RefusalReason) (s : State) : State :=
  match s.seq.restore with
  | none => s
  | some r =>
    match s.ldm.restoreList with
    | [] => endRestore r s
    | n :: _ =>
      match admitSlot .restore n s with
      | .ok s =>
        mapRestore (fun r => { r with phase := .awaitAck, hold := none, slot := some n, timer := none, count := r.count + 1 }) s
      | .error e =>
        let s := mapRestore (fun r => { r with phase := .held, hold := some e, slot := none, timer := none }) s
        if prior = some e then s else postRestoreHold n e s

/-- A restore run begins (R132). -/
def startRestore (s : State) : State :=
  restoreAdmit none (s.mapSeq fun q =>
    { q with
      restore := some ⟨if q.state = .idle then none else some q.state, .admitNext, none, none, none, 0⟩
      state := .restoring })

/-- RESTORE_SETTLE_EXPIRY: the restore settle timer expires in SETTLE (R133). -/
def restoreSettleExpiry (s : State) : State :=
  match s.seq.restore with
  | some r =>
    if s.seq.state = .restoring ∧ r.phase = .settle ∧ r.timer.isSome then
      restoreAdmit none (mapRestore (fun r => { r with phase := .admitNext, slot := none, timer := none }) s)
    else s
  | none => s

/-! ## Window completions (R126, R133) -/

/-- Whether a held admission's reason can have cleared at a window completion (R126). -/
def mayReattempt (r : HoldReason) (s : State) : Bool :=
  match r with
  | .level => s.admitsLevel
  | .bridging => !s.seq.bridgeHold
  | .capacity | .ramp | .coverage | .queue | .link => true
  | .readyTimeout | .hostSilent => false

/-- Whether a held restore run goes back to ADMIT at a window completion (R133). -/
def restoreMayReattempt (r : RefusalReason) (s : State) : Bool :=
  match r with
  | .level => s.admitsLevel
  | .bridging => !s.seq.bridgeHold
  | _ => true

/-- The sequencer at a window completion (R126, R133). -/
def sequencerWindow (s : State) : State :=
  match s.seq.state, s.seq.holdReason, s.seq.restore with
  | .held, some r, _ => if mayReattempt r s then reattempt (some r) s else s
  | .restoring, _, some r =>
    match r.phase, r.hold with
    | .held, some e =>
      if restoreMayReattempt e s then
        restoreAdmit (some e) (mapRestore (fun r => { r with phase := .admitNext, hold := none }) s)
      else s
    | _, _ => s
  | _, _, _ => s

/-! ## The Bridge Controller's reports (R127, R134) -/

/-- The position goes back to its step's first slot with both timers stopped (R127). -/
def Seq.rewind (q : Seq) : Seq := { q with awaitTimer := none, settleTimer := none, cursor := 0, admitted := [] }

/-- The Bridge Controller's departure from GRID (R127, R134). -/
def sequencerDeparture (s : State) : State :=
  let prior := s.seq.heldFor
  let s := s.mapSeq fun q => { q with bridgeHold := true }
  match s.seq.state with
  | .running | .awaiting | .settling | .held => hold prior .bridging (s.mapSeq Seq.rewind)
  | .paused => s.mapSeq fun q => { q.rewind with pausedFrom := some (.held, some .bridging) }
  | .idle => s
  | .restoring => mapRestore (fun r => { r with phase := .held, hold := some .bridging, slot := none, timer := none }) s

/-- The Bridge Controller's entry into GRID (R127, R132, R134). -/
def sequencerGridEntry (s : State) : State :=
  let s := s.mapSeq fun q => { q with bridgeHold := false }
  match s.seq.state with
  | .restoring => restoreAdmit none (mapRestore (fun r => { r with phase := .admitNext, hold := none, slot := none, timer := none }) s)
  | st =>
    if s.cfg.autoRestore ∧ s.ldm.restoreList ≠ [] then startRestore s
    else if st = .held ∧ s.seq.holdReason = some .bridging then liftBridging s
    else s

/-! ## Host silence (R128) -/

/-- The Management Port reports that the host is silent (R128). -/
def sequencerSilence (s : State) : State := s.mapSeq fun q => { q with hostSilent := true }

/-- The Management Port reports that the silence has cleared (R128). -/
def sequencerSilenceCleared (s : State) : State :=
  let s := s.mapSeq fun q => { q with hostSilent := false }
  if s.seq.heldFor = some .hostSilent then beginStep s else s

/-! ## Pause, resume and cancel (R129 to R131) -/

/-- PLAN_PAUSE (R129): whether it is accepted, and the state after. -/
def planPause (s : State) : Status × State :=
  match s.seq.state with
  | .running | .awaiting | .settling | .held =>
    (.ok, s.mapSeq fun q => { q with state := .paused, pausedFrom := some (q.state, q.holdReason), holdReason := none })
  | .paused => (.ok, s)
  | .idle => (.state, s)
  | .restoring =>
    match s.seq.restore.bind (·.kept) with
    | none => (.state, s)
    | some .paused => (.ok, s)
    | some k =>
      (.ok, (mapRestore (fun r => { r with kept := some .paused }) s).mapSeq fun q =>
        { q with pausedFrom := some (k, q.holdReason), holdReason := none })

/-- Whether a hold reason is an admission refusal, as R130 counts them. -/
def HoldReason.admission : HoldReason → Bool
  | .readyTimeout | .hostSilent => false
  | _ => true

/-- The sequencer returns from PAUSED to HELD with a reason (R130). -/
def resumeHeld (r : HoldReason) (s : State) : State :=
  match r with
  | .bridging => if s.seq.bridgeHold then postHold r s else liftBridging s
  | .hostSilent => if s.seq.hostSilent then postHold r s else beginStep s
  | .readyTimeout => postHold r s
  | .level | .capacity | .ramp | .coverage | .queue | .link => reattempt none s

/-- The sequencer returns from PAUSED to a state (R130). -/
def resumeTo (st : SeqState) (r : Option HoldReason) (s : State) : State :=
  let s := s.mapSeq fun q => { q with state := st, holdReason := r, pausedFrom := none }
  match st, r with
  | .held, some r => resumeHeld r s
  | .awaiting, _ => testAwait s
  | _, _ => s

/-- PLAN_RESUME (R130): whether it is accepted, and the state after. -/
def planResume (s : State) : Status × State :=
  match s.seq.state, s.seq.pausedFrom with
  | .paused, some (st, r) => (.ok, resumeTo st r s)
  | .held, _ =>
    match s.seq.holdReason, s.seq.step with
    | some .readyTimeout, some p => (.ok, enterSettling p s)
    | some .bridging, _ => if s.seq.bridgeHold then (.state, s) else (.ok, reattempt (some .bridging) s)
    | some r, _ => if r.admission then (.ok, reattempt (some r) s) else (.state, s)
    | none, _ => (.state, s)
  | .restoring, some (st, r) =>
    if s.seq.restore.bind (·.kept) = some .paused then
      (.ok, (mapRestore (fun r => { r with kept := some st }) s).mapSeq fun q =>
        { q with holdReason := r, pausedFrom := none })
    else (.state, s)
  | _, _ => (.state, s)

/-- Everything the sequencer was doing is dropped, and it is IDLE (R131, R137); the step index, the slot cursor and step begun keep
their values (log entry 38). -/
def Seq.drop (q : Seq) : Seq :=
  { q with
    active := none, staged := .empty, startPending := false, startupStaged := false, state := .idle
    awaitTimer := none, settleTimer := none, admitted := [], holdReason := none, pausedFrom := none, restore := none }

/-- PLAN_CANCEL (R131). -/
def planCancel (s : State) : State :=
  let id := s.seq.planId
  let s := s.forEach (s.seq.admitted.map (·.1)) withdrawPowerOn
  post .planCancelled 0 (u8 (flagBits [id.isSome]) ++ u16 (id.getD 0).toNat) (s.mapSeq Seq.drop)

/-- The warm restart at the sequencer (R137). -/
def sequencerRestart (s : State) : State := s.mapSeq fun q => { q.drop with hostSilent := false }

/-- PLAN_START (R120): whether it is accepted, and the state after. -/
def planStart (s : State) : Status × State :=
  match s.seq.staged with
  | .ready p =>
    if s.seq.state = .idle then (.ok, promote p s)
    else (.ok, s.mapSeq fun q => { q with startPending := true })
  | _ => (.state, s)

/-- The first entry into SUPERVISE since power-on reset (R135). -/
def sequencerSupervised (s : State) : State :=
  match s.seq.staged with
  | .ready p =>
    if s.seq.startupStaged then
      if s.seq.state = .idle then promote p s else s.mapSeq fun q => { q with startPending := true }
    else s
  | _ => s

end Sys2Proof.Machine
end

