-- ==== Sys2Proof/Machine/Bridge.lean ====
section
/-! DEFINITION. Machine/Bridge.lean: the Bridge Controller's states (sections 5.2, R92 to R103); its estimates are in
Machine/Estimate.lean. -/
namespace Sys2Proof.Machine

/-- Input is sufficient (R92). -/
def State.inputSufficient (s : State) : Bool :=
  s.acm.shelf != .lost && s.sfe.latest.pAvg ≤ s.rsv.pAvail && s.sfe.latest.discharge ≤ s.cfg.dischargeThresh

/-- Post BRIDGE_STATE (R102, R201): P_avail is the figure the Bridge Controller last read (R46), and the mean bus power and the
discharge change at window completions alone. -/
def postBridge (old : BridgeState) (cause : BridgeCause) (seconds : Nat) (s : State) : State :=
  post .bridgeState 0
    (u8 old.code ++ u8 s.brc.state.code ++ u8 cause.ctorIdx ++ u16 seconds ++ u16 s.sfe.latest.pAvg ++ u16 s.brc.pAvailRead ++
      u32 s.sfe.latest.discharge) s

/-- The departure from GRID into BRIDGING (R94). -/
def enterBridging (cause : BridgeCause) (s : State) : State :=
  let s := s.mapBrc fun b => { b with state := .bridging, elapsedMs := 0, shortfallReported := false, shedSettle := none }
  let s := batteryBridgeReport .grid .bridging (sequencerDeparture (loadManagerDeparture s))
  postBridge .grid cause s.elapsedS s

/-- The return from RECOVERING to BRIDGING (R98). -/
def returnToBridging (cause : BridgeCause) (s : State) : State :=
  let s := s.mapBrc fun b => { b with state := .bridging, stable := none }
  postBridge .recovering cause s.elapsedS (batteryBridgeReport .recovering .bridging s)

/-- The entry into RECOVERING from BRIDGING or DEPLETED (R98). -/
def enterRecovering (s : State) : State :=
  let old := s.brc.state
  let s := s.mapBrc fun b => { b with state := .recovering, stable := some s.cfg.acStableMs }
  postBridge old .inputSufficient s.elapsedS (batteryBridgeReport old .recovering s)

/-- The entry into GRID (R100). -/
def enterGrid (s : State) : State :=
  let duration := s.elapsedS
  let s := s.mapBrc fun b =>
    { b with state := .grid, lastOutage := some duration, elapsedMs := 0, shedSettle := none, stable := none }
  postBridge .recovering .stable duration (sequencerGridEntry (batteryBridgeReport .recovering .grid s))

/-- STABLE_TIMER_EXPIRY: the stable timer expires in RECOVERING (R98). -/
def stableTimerExpiry (s : State) : State :=
  if s.brc.state = .recovering ∧ s.brc.stable.isSome then enterGrid s else s

/-- SHED_SETTLE_EXPIRY: the shed-settle timer expires (R96). -/
def shedSettleExpiry (s : State) : State := s.mapBrc fun b => { b with shedSettle := none }

/-- The Load Manager's report of a shed request (R97). -/
def shedReported (reason : ShedReason) (amount sum shortfall : Nat) (s : State) : State :=
  let s := s.mapBrc fun b => { b with lastShed := some ⟨reason, amount, sum, shortfall⟩ }
  let s := post .shedDone 0 (u8 reason.ctorIdx ++ u16 amount ++ u32 sum ++ u16 shortfall) s
  if 0 < shortfall ∧ s.brc.state ≠ .grid ∧ s.brc.shortfallReported = false then
    (post .uncoverable 0 (u8 reason.ctorIdx ++ u16 amount ++ u16 shortfall ++ u16 s.elapsedS) s).mapBrc fun b =>
      { b with shortfallReported := true }
  else s

/-- Send a shed request, start the shed-settle timer, note it in the estimate record, and take the report (R95 to R97). -/
def sendShed (amount : Nat) (reason : ShedReason) (s : State) : State :=
  let s := s.mapBrc fun b =>
    { b with
      shedSettle := some s.cfg.shedSettleMs
      estimate := b.estimate.map fun e => { e with shedRequested := true } }
  match shedRequest amount reason s with
  | (s, sum, shortfall) => shedReported reason amount sum shortfall s

/-- The entry into DEPLETED (R99). -/
def enterDepleted (s : State) : State :=
  let s := sendShed 65535 .depleted (s.mapBrc fun b => { b with state := .depleted })
  postBridge .bridging .depleted s.elapsedS (batteryBridgeReport .bridging .depleted s)

/-- Some battery module is DEPLETED (R95). -/
def State.anyDepleted (s : State) : Bool := (List.finRange 4).any fun i => (s.batt i).state == .depleted

/-- Store an estimate as the estimate record (R109). -/
def storeEstimate (e : Estimate) (s : State) : State := s.mapBrc fun b => { b with estimate := some e }

/-- A window completion in GRID (R93). -/
def windowInGrid (s : State) : State :=
  let s := storeEstimate (coverageEstimate s s.sfe.latest.pAvg) s
  if s.brc.acSeen ∧ s.rsv.pAvail < s.sfe.latest.pAvg then enterBridging .load s
  else if s.cfg.dischargeThresh < s.sfe.latest.discharge then enterBridging .discharge s
  else s

/-- A window completion in BRIDGING (R95). -/
def windowInBridging (s : State) : State :=
  let e := bridgingEstimate s
  let s := storeEstimate e s
  if s.inputSufficient then enterRecovering s
  else if e.n = 0 ∧ s.anyDepleted ∧ 0 < e.pBatt then enterDepleted s
  else
    match e.shedAmount, s.brc.shedSettle with
    | some a, none => sendShed a .bridging s
    | _, _ => s

/-- A window completion in RECOVERING (R98). -/
def windowInRecovering (s : State) : State :=
  let s := storeEstimate (bridgingEstimate s) s
  if s.inputSufficient then s else returnToBridging .inputInsufficient s

/-- A window completion in DEPLETED (R99). -/
def windowInDepleted (s : State) : State :=
  let e := bridgingEstimate s
  let s := storeEstimate e s
  if s.inputSufficient then enterRecovering s
  else if 0 < e.pBatt ∧ s.brc.shedSettle = none then sendShed 65535 .depleted s
  else s

/-- The Bridge Controller at a window completion (R46, R93, R95, R98, R99). -/
def bridgeWindow (s : State) : State :=
  let s := readCapacity s
  match s.brc.state with
  | .grid => windowInGrid s
  | .bridging => windowInBridging s
  | .recovering => windowInRecovering s
  | .depleted => windowInDepleted s

/-- A shelf AC state report at the Bridge Controller (R93, R98, R111). -/
def bridgeAcReport (old new : AcState) (s : State) : State :=
  let s := if old = .lost ∧ new ≠ .lost then s.mapBrc fun b => { b with acSeen := true } else s
  if new = .lost then
    match s.brc.state with
    | .grid => enterBridging .acLost s
    | .recovering => returnToBridging .acLost s
    | .bridging | .depleted => s
  else s

end Sys2Proof.Machine
end

