-- ==== Sys2Proof/Machine/AcLine.lean ====
section
/-! DEFINITION. Machine/AcLine.lean: the AC Line Monitor (sections 3.3 to 3.7, R58 to R66). -/
namespace Sys2Proof.Machine

/-- The nominal half-period in µs (R59). -/
def LineFrequency.nominal : LineFrequency → Nat
  | .hz50 => 10000
  | .hz60 => 8333

/-- The allowed deviation in µs (R59). -/
def Settings.deviation (c : Settings) : Nat := c.lineFrequency.nominal * c.halfPeriodTolerancePct / 100

/-- A half-period is valid between the low and the high limit, both included (R59). -/
def Settings.validHalfPeriod (c : Settings) (h : Nat) : Bool :=
  c.lineFrequency.nominal - c.deviation ≤ h && h ≤ c.lineFrequency.nominal + c.deviation

/-- The loss limit in µs (R61). -/
def Settings.lossLimit (c : Settings) : Nat := c.lineFrequency.nominal * 3 / 2

/-- The shelf AC state of three phase states (R64). -/
def shelfOf (phases : Vector PhaseRecord 3) : AcState :=
  match ((List.finRange 3).filter fun p => phases[p].state == .present).length with
  | 0 => .lost
  | 3 => .good
  | _ => .partialInput

/-- The shelf AC state is recomputed; a change is held, reported to the Bridge Controller and the Battery Monitor, and posted
(R64). -/
def recomputeShelf (s : State) : State :=
  let old := s.acm.shelf
  let new := shelfOf s.acm.phases
  if old = new then s
  else
    let s := s.mapAcm fun a => { a with shelf := new }
    let s := batteryAcReport old new (bridgeAcReport old new s)
    post .acState 0
      (u8 old.ctorIdx ++ u8 new.ctorIdx ++ (List.finRange 3).flatMap fun p => u8 (s.phase p).state.ctorIdx) s

/-- Change a phase's record without a change of its state. -/
def mapPhase (p : Fin 3) (f : PhaseRecord → PhaseRecord) (s : State) : State :=
  s.mapAcm fun a => { a with phases := a.phases.set p (f a.phases[p]) }

/-- Replace a phase's record. A change of its state posts PHASE_STATE, reports a change between PRESENT and not PRESENT to the
Rectifier Supervisor, and recomputes the shelf AC state (R60, R63, R64). -/
def putPhase (p : Fin 3) (r : PhaseRecord) (s : State) : State :=
  let old := (s.phase p).state
  let s := mapPhase p (fun _ => r) s
  if old = r.state then s
  else
    let s := post .phaseState (p + 1) (u8 old.ctorIdx ++ u8 r.state.ctorIdx ++ u16 (r.newest.getD 0)) s
    let s := if (old = .present) = (r.state = .present) then s else phaseReported p s
    recomputeShelf s

/-- What a judged half-period does to a phase's state and counts (the table of R60). -/
def PhaseRecord.judge (valid : Bool) (stableCount : Nat) (r : PhaseRecord) : PhaseRecord :=
  match r.state, valid with
  | .present, true => { r with bad := 0 }
  | .present, false =>
    if 3 ≤ r.bad + 1 then { r with state := .outOfTolerance, bad := 0, stable := 0 } else { r with bad := r.bad + 1 }
  | _, true =>
    if stableCount ≤ r.stable + 1 then { r with state := .present, stable := 0, bad := 0 }
    else { r with stable := r.stable + 1 }
  | _, false => { r with stable := 0 }

/-- What a loss expiry does to a phase (R61). -/
def PhaseRecord.lose (r : PhaseRecord) : PhaseRecord :=
  match r.state with
  | .present | .outOfTolerance => { r with state := .lost, bad := 0, stable := 0 }
  | .lost => { r with stable := 0 }

/-- The capture counter run on to a value, where it has not passed it, held at 65,535 (R58), with the part of the present
millisecond that this has taken, 1 to 1,000 µs where it has taken any: a value reached with the next frame has taken the whole
millisecond, so that this frame adds nothing. Of a held counter that part is not known, and all of it is counted as taken (log entry
9). -/
def PhaseRecord.runTo (value : Nat) (r : PhaseRecord) : PhaseRecord :=
  let counter := min 65535 (max value r.counter)
  let taken := r.ahead + (counter - r.counter)
  { r with counter, ahead := if counter = 65535 then 1000 else taken - (taken - 1) / 1000 * 1000 }

/-- LOSS_LIMIT_EXPIRY: the capture counter has reached the loss limit without a crossing (R61). Taken again before the next
crossing it changes nothing, since the loss expires at most once between two crossings. -/
def lossLimitExpiry (p : Fin 3) (s : State) : State := putPhase p ((s.phase p).runTo s.cfg.lossLimit).lose s

/-- The counter's value enters the capture pair as the new half-period, and the counter is restarted (R58). -/
def PhaseRecord.capture (r : PhaseRecord) : PhaseRecord :=
  { r with previous := r.newest, newest := some r.counter, counter := 0 }

/-- ZERO_CROSSING (R58): the counter, run on to the moment of the crossing, gives the half-period, which is judged and acted on; the
first crossing since power-on reset only restarts the counter. A counter that has passed what the command says keeps its value,
and one at or above the loss limit is one the loss expired at first (R61; log entry 9). -/
def zeroCrossing (p : Fin 3) (counter : Nat) (s : State) : State :=
  let s := mapPhase p (PhaseRecord.runTo (max 1 counter)) s
  let h := (s.phase p).counter
  let s := if s.cfg.lossLimit ≤ h then lossLimitExpiry p s else s
  if (s.phase p).crossed then
    putPhase p ((s.phase p).capture.judge (s.cfg.validHalfPeriod h) s.cfg.phaseStableCount) s
  else mapPhase p (fun r => { r with counter := 0, crossed := true }) s

/-- The capture counters run on to the end of the present millisecond, held at 65,535 (R58). -/
def runCounters (s : State) : State :=
  s.mapAcm fun a => { a with phases := Vector.ofFn fun p : Fin 3 =>
    { a.phases[p] with counter := min 65535 (a.phases[p].counter + (1000 - a.phases[p].ahead)), ahead := 0 } }

/-- LineFrequency has been written (R62): a counter already at the new loss limit makes the loss expire at once, in the order L1,
L2, L3 (log entry 37: R62 gives none). -/
def applyLineFrequency (s : State) : State :=
  s.forEach (List.finRange 3) fun p s => if s.cfg.lossLimit ≤ (s.phase p).counter then lossLimitExpiry p s else s

/-- PhaseStableCount has been written (R62). -/
def applyStableCount (s : State) : State :=
  s.forEach (List.finRange 3) fun p s => mapPhase p (fun r => { r with stable := min r.stable s.cfg.phaseStableCount }) s

end Sys2Proof.Machine
end

