-- ==== Sys2Proof/Machine/Sense.lean ====
section
/-! DEFINITION. Machine/Sense.lean: the Sense Front-End (sections 3.1 and 3.2): the sense frame, the part's clock, the evaluation
window and its completion. -/
namespace Sys2Proof.Machine

/-! ## The sense frame (R50, R51) -/

/-- A reading limited to a range. -/
def limit (lo hi v : Int) : Int := max lo (min hi v)

/-- A reading has reached beyond a range. -/
def beyond (lo hi v : Int) : Bool := v < lo || hi < v

/-- A frame power before it is held, in W (R51). -/
def framePower (vbus iload : Nat) : Nat := vbus * iload / 1000

/-- The frame the SFE makes of one uncorrected reading of every quantity (R50, R51). Vbus and Iload below 0 are taken as 0 and not
marked; for the other quantities both limits mark. -/
def limitFrame (raw : RawFrame) : SenseFrame :=
  let vbus := (limit 0 65535 raw.vbus).toNat
  let iload := (limit 0 32767 raw.iload).toNat
  let power := framePower vbus iload
  { vbus, iload
    power := min 65535 power
    vbm := Vector.ofFn fun i : Fin 4 => (limit 0 65535 raw.vbm[i]).toNat
    ibm := Vector.ofFn fun i : Fin 4 => limit (-32768) 32767 raw.ibm[i]
    tbm := Vector.ofFn fun i : Fin 4 => limit (-40) 125 raw.tbm[i]
    saturated :=
      { vbus := decide (65535 < raw.vbus)
        iload := decide (32767 < raw.iload)
        power := decide (65535 < power)
        vbm := Vector.ofFn fun i : Fin 4 => beyond 0 65535 raw.vbm[i]
        ibm := Vector.ofFn fun i : Fin 4 => beyond (-32768) 32767 raw.ibm[i]
        tbm := Vector.ofFn fun i : Fin 4 => beyond (-40) 125 raw.tbm[i] } }

/-- The saturated set's flags, in the bit order of R203. -/
def SatSet.flags (t : SatSet) : List Bool := [t.vbus, t.iload, t.power] ++ t.vbm.toList ++ t.ibm.toList ++ t.tbm.toList

/-- A saturated set is not empty (R55). -/
def SatSet.any (t : SatSet) : Bool := t.flags.any id

/-- Two saturated sets joined (R52). -/
def SatSet.join (a b : SatSet) : SatSet where
  vbus := a.vbus || b.vbus
  iload := a.iload || b.iload
  power := a.power || b.power
  vbm := Vector.ofFn fun i : Fin 4 => a.vbm[i] || b.vbm[i]
  ibm := Vector.ofFn fun i : Fin 4 => a.ibm[i] || b.ibm[i]
  tbm := Vector.ofFn fun i : Fin 4 => a.tbm[i] || b.tbm[i]

/-- A frame added to the window in progress (R52). -/
def Window.add (w : Window) (f : SenseFrame) : Window where
  count := w.count + 1
  powerSum := w.powerSum + f.power
  vbusSum := w.vbusSum + f.vbus
  iloadSum := w.iloadSum + f.iload
  vbmSum := Vector.ofFn fun i : Fin 4 => w.vbmSum[i] + f.vbm[i]
  ibmSum := Vector.ofFn fun i : Fin 4 => w.ibmSum[i] + f.ibm[i]
  tbmSum := Vector.ofFn fun i : Fin 4 => w.tbmSum[i] + f.tbm[i]
  satFlag := w.satFlag || f.saturated.any
  saturated := w.saturated.join f.saturated

/-! ## The evaluation window (R53 to R55) -/

/-- The total discharge mean (R53). -/
def totalDischarge (iMean : Vector Int 4) : Nat := ((List.finRange 4).map fun i => iMean[i].toNat).sum

/-- The figures a completed window gives (R53). -/
def Window.figures (w : Window) (previousCount : BitVec 16) : Figures :=
  let iMean := Vector.ofFn fun i : Fin 4 => w.ibmSum[i].tdiv 100
  { pAvg := divUp w.powerSum 100
    vbusMean := w.vbusSum / 100
    iloadMean := w.iloadSum / 100
    vMean := Vector.ofFn fun i : Fin 4 => w.vbmSum[i] / 100
    iMean
    tMean := Vector.ofFn fun i : Fin 4 => w.tbmSum[i].tdiv 100
    discharge := totalDischarge iMean
    windowCount := previousCount + 1
    saturated := w.saturated }

/-- The figures of the window in progress become the latest, and the next window begins empty (R53). -/
def formFigures (s : State) : State :=
  s.mapSfe fun f => { f with window := .empty, latest := f.window.figures f.latest.windowCount }

/-- SENSE_SATURATED, posted by the first saturated window after a clean one (R55). -/
def postSaturation (before : SatSet) (s : State) : State :=
  if s.sfe.latest.saturated.any && !before.any then
    post .senseSaturated 0
      (u16 (flagBits s.sfe.latest.saturated.flags) ++ u16 s.sfe.latest.windowCount.toNat) s
  else s

/-- The Rectifier Supervisor at a window completion: the owed attempts of the modules in retry phase DUE (R39), in
ascending order of module (log entry 37: R39 and R54 give none). -/
def rectifierWindow (s : State) : State := s.forEach (List.finRange 6) attemptIfDue

/-- A block takes the window completion (R54). -/
def WindowBlock.take : WindowBlock → State → State
  | .brc => bridgeWindow
  | .ldm => decayRamp
  | .seq => sequencerWindow
  | .bmn => batteryWindow
  | .rsv => rectifierWindow

/-- The order the model gives the five blocks where a command states none. -/
def defaultOrder : List WindowBlock := [.brc, .ldm, .seq, .bmn, .rsv]

/-- The order in which the five blocks take a completion: the command's, where it names each block once (R54: no set order). -/
def windowOrder (order : List WindowBlock) : List WindowBlock :=
  if order.length = 5 ∧ defaultOrder.all (order.contains ·) then order else defaultOrder

/-- EVALUATION_WINDOW_COMPLETION: the hundredth frame has completed the window (R53 to R55). SENSE_SATURATED is posted before the
blocks take the completion (log entry 37: R55 does not say). -/
def completeWindow (order : List WindowBlock) (s : State) : State :=
  if 100 ≤ s.sfe.window.count then
    let before := s.sfe.latest.saturated
    (postSaturation before (formFigures s)).forEach (windowOrder order) WindowBlock.take
  else s

/-! ## The millisecond (R2, R52, R57) -/

/-- One timer more of a list run down, each by 1 ms. -/
def Brc.tick (b : Brc) : Brc :=
  { b with
    elapsedMs := if b.state = .grid then b.elapsedMs else min 65535999 (b.elapsedMs + 1)
    shedSettle := Timer.tick b.shedSettle
    stable := Timer.tick b.stable }

/-- The sequencer's timers run: the await timer in AWAITING, the settle timer in SETTLING, the restore settle timer in SETTLE
(R119, R132). -/
def Seq.tick (q : Seq) : Seq :=
  { q with
    awaitTimer := if q.state = .awaiting then Timer.tick q.awaitTimer else q.awaitTimer
    settleTimer := if q.state = .settling then Timer.tick q.settleTimer else q.settleTimer
    restore := q.restore.map fun r => { r with timer := Timer.tick r.timer } }

/-- The retry-delay timers run (R32). -/
def Rsv.tick (v : Rsv) : Rsv :=
  { v with rects := Vector.ofFn fun k : Fin 6 => { v.rects[k] with retryTimer := Timer.tick v.rects[k].retryTimer } }

/-- The zones' isolation delays run, and their copies in the zone records (R21, R151). -/
def tickZones (s : State) : State :=
  (s.mapLkm fun l => { l with delay := Vector.ofFn fun z : Fin 8 => Timer.tick l.delay[z] }).mapLdm fun l =>
    { l with zones := Vector.ofFn fun z : Fin 8 =>
        { l.zones[z] with isolationDelay := Timer.tick l.zones[z].isolationDelay } }

/-- One millisecond of part time passes: part time, and every running timer and counter of the part. -/
def tick (s : State) : State :=
  let s := { s with partTime := s.partTime + 1 }
  let s := (((s.mapBrc Brc.tick).mapSeq Seq.tick).mapRsv Rsv.tick)
  let s := s.mapMgp fun m => { m with silenceTimer := Timer.tick m.silenceTimer }
  let s := s.mapUlc fun u =>
    { u with
      cycleTimer := Timer.tick u.cycleTimer
      pass := u.pass.map fun p => { p with limit := Timer.tick p.limit } }
  runCounters (tickZones s)

/-- The ends an earlier frame has brought and no command has yet taken: they belong before the next frame (R53, R83 to R86). -/
def takeDueEnds (s : State) : State :=
  completeWindow defaultOrder (placeOwedRelease (releaseSettleEnd (measureEnd (settleEnd (baselineEnd s)))))

/-- A completed frame is passed to the Battery Monitor and added to the window in progress (R52). -/
def takeFrame (f : SenseFrame) (s : State) : State :=
  let s := testFrame f (s.forEach (List.finRange 4) (countModule f))
  s.mapSfe fun x => { x with frame := f, window := x.window.add f }

/-- SENSE_FRAME (R52): 1 ms passes and a frame completes. -/
def senseFrame (raw : RawFrame) (s : State) : State := takeFrame (limitFrame raw) (tick (takeDueEnds s))

end Sys2Proof.Machine
end

