-- ==== Sys2Proof/Machine/Leak.lean ====
section
/-! DEFINITION. Machine/Leak.lean: the Leak Monitor (chapter 7): classification and runs, channel states, wet zones, isolation and its
delays, and location on a rope. -/
namespace Sys2Proof.Machine

/-! ## Reading the record (R138, R149) -/

/-- The settings part of a channel's record. -/
abbrev State.leakCfg (s : State) (c : Fin 8) : LeakSettings := s.cfg.leaks[c]

/-- A channel's zone set includes a zone. -/
def LeakSettings.covers (l : LeakSettings) (z : Fin 8) : Bool := l.zoneSet.getLsbD z

/-- The zones of a channel's zone set, in ascending order. -/
def LeakSettings.zones (l : LeakSettings) : List (Fin 8) := (List.finRange 8).filter fun z => l.covers z

/-- A channel measures location: a ROPE with W3_16 (R152). -/
def LeakSettings.locates (l : LeakSettings) : Bool := l.kind == .rope && l.pulseWidth == .w3of16

/-- A state is active wet under an open policy (R149). -/
def LeakState.active (st : LeakState) (p : OpenPolicy) : Bool := st == .confirmed || (st == .openFault && p == .asWet)

/-- A channel counts toward the wetness of the zones it covers (R149). -/
def LeakChannel.wets (r : LeakChannel) (p : OpenPolicy) : Bool :=
  match r.state with
  | .confirmed | .latched => true
  | .openFault => p == .asWet || r.priorWet
  | .dry | .suspect | .disabled => false

/-- A zone is wet (R149). -/
def State.zoneIsWet (s : State) (z : Fin 8) : Bool :=
  (List.finRange 8).any fun c =>
    (s.leakCfg c).enabled && (s.leakCfg c).covers z && (s.channel c).wets (s.leakCfg c).openPolicy

/-- An enabled channel covering a zone is active wet (R151). -/
def State.zoneActiveWet (s : State) (z : Fin 8) : Bool :=
  (List.finRange 8).any fun c =>
    (s.leakCfg c).enabled && (s.leakCfg c).covers z && (s.channel c).state.active (s.leakCfg c).openPolicy

/-! ## Zones, requests and delay timers (R149 to R151) -/

/-- Change a channel's record. -/
def mapChannel (c : Fin 8) (f : LeakChannel → LeakChannel) (s : State) : State :=
  s.mapLkm fun l => { l with channels := l.channels.set c (f l.channels[c]) }

/-- One zone judged again: a change of its wet view goes to the Load Manager and is posted (R149). -/
def judgeZone (z : Fin 8) (s : State) : State :=
  let wet := s.zoneIsWet z
  if s.lkm.wetView[z] = wet then s
  else
    let s := s.mapLkm fun l => { l with wetView := l.wetView.set z wet }
    post .zoneWet z (flagByte wet) (mapZone z (fun r => { r with wet := wet }) s)

/-- Every zone judged again (R149), in ascending zone number (log entry 37: R149 gives no order). -/
def judgeZones (s : State) : State := s.forEach (List.finRange 8) judgeZone

/-- Set a zone's delay timer, and the zone record's isolation delay with it (R151). -/
def setDelay (z : Fin 8) (t : Timer) (s : State) : State :=
  mapZone z (fun r => { r with isolationDelay := t }) (s.mapLkm fun l => { l with delay := l.delay.set z t })

/-- An isolation request for a zone, which stops its delay timer (R150). -/
def requestIsolation (z : Fin 8) (s : State) : State := isolateZone z (setDelay z none s)

/-- The policy ISOLATE_DELAYED at one zone (R150). -/
def delayIsolation (c z : Fin 8) (ms : Nat) (s : State) : State :=
  if (s.zone z).isolated then s
  else if ms = 0 then requestIsolation z s
  else
    match s.lkm.delay[z] with
    | none => post .isolationPending z (u8 c ++ u16 ms) (setDelay z (some ms) s)
    | some t => if ms < t then setDelay z (some ms) s else s

/-- A channel's policy applied to one zone (R150). -/
def applyPolicyAt (c z : Fin 8) (s : State) : State :=
  match (s.leakCfg c).policy with
  | .isolate => requestIsolation z s
  | .isolateDelayed => delayIsolation c z (s.leakCfg c).isolateDelayMs s
  | .alarm => s

/-- A channel's policy applied to a list of zones (R150). -/
def applyPolicy (c : Fin 8) (zones : List (Fin 8)) (s : State) : State := s.forEach zones (applyPolicyAt c)

/-- A zone's delay timer is cancelled when no active-wet channel covers it (R151). -/
def checkDelay (z : Fin 8) (s : State) : State :=
  if s.lkm.delay[z].isSome ∧ s.zoneActiveWet z = false then
    post .isolationCancelled z [] (setDelay z none s)
  else s

/-- ISOLATION_DELAY_EXPIRY (R151). -/
def isolationDelayExpiry (z : Fin 8) (s : State) : State :=
  if s.lkm.delay[z].isSome then requestIsolation z s else s

/-! ## Changes of a channel (R148) -/

/-- Post LEAK_STATE for a change from `old` to the state the channel now has (R148, R201). -/
def postLeak (c : Fin 8) (old : LeakState) (cause : LeakCause) (s : State) : State :=
  let r := s.channel c
  post .leakState c
    (u8 old.ctorIdx ++ u8 r.state.ctorIdx ++ u8 cause.ctorIdx ++ u16 r.lastConductance ++ flagByte r.priorWet ++
      [(s.leakCfg c).zoneSet] ++ u8 (flagBits [r.location.isSome]) ++ u16 (r.location.getD 0)) s

/-- Replace a channel's record. A change of its state is followed by the zone judgement, the policy on becoming active wet, the
timer check on ceasing to be so, and LEAK_STATE (R148 to R151); a change of prior-wet alone by the zone judgement. -/
def putChannel (c : Fin 8) (cause : LeakCause) (r : LeakChannel) (s : State) : State :=
  let old := (s.channel c).state
  let p := (s.leakCfg c).openPolicy
  let zones := (s.leakCfg c).zones
  let s := judgeZones (mapChannel c (fun _ => r) s)
  if old = r.state then s
  else
    let s := if r.state.active p then applyPolicy c zones s else s
    let s := if old.active p && !r.state.active p then s.forEach zones checkDelay else s
    postLeak c old cause s

/-! ## Samples (R141 to R146, R152) -/

/-- A loop reading above 10 kΩ, which is 100,000 units of 0.1 Ω, is OPEN (R141). -/
def loopOpen (loop : Nat) : Bool := 100000 < loop

/-- What the last loop resistance holds for a reading (R138, R141; log entry 4 for one its field cannot hold). -/
def loopField (loop : Nat) : Option Nat :=
  if loopOpen loop then none
  else if loop ≤ 65535 then some loop
  else some (Config.overrangeLoop loop).toNat

/-- The class of a sample (R142). -/
def LeakSettings.classify (l : LeakSettings) (g loop : Nat) : SampleClass :=
  if loopOpen loop then .openLoop
  else if l.wetThreshold ≤ g then .wet
  else if g ≤ l.dryThreshold then .dry
  else .ambig

/-- The run class a sample class counts toward; AMBIG counts toward none (R143). -/
def SampleClass.run : SampleClass → Option RunClass
  | .wet => some .wet
  | .dry => some .dry
  | .openLoop => some .openLoop
  | .ambig => none

/-- A sample counted into the run (R143). -/
def LeakChannel.countRun (cls : SampleClass) (r : LeakChannel) : LeakChannel :=
  match cls.run with
  | none => r
  | some k =>
    if r.runClass = some k then { r with runCount := min 1000 (r.runCount + 1) }
    else { r with runClass := some k, runCount := 1 }

/-- The entry into OPEN_FAULT (R146). -/
def LeakChannel.openFault (priorWet : Bool) (r : LeakChannel) : LeakChannel :=
  { r with state := .openFault, priorWet := priorWet, location := if priorWet then r.location else none }

/-- The position of the water from the location reading (R152). -/
def position (l : LeakSettings) (rloc : Nat) : Nat :=
  if rloc < l.rlead then 0 else min l.ropeLengthCm ((rloc - l.rlead) * 100 / l.rpm)

/-- The location a measurement gives: absent on a channel that measures none (R152). -/
def LeakSettings.locate (l : LeakSettings) (rloc : Nat) : Option Nat := if l.locates then some (position l rloc) else none

/-- The entry into CONFIRMED (R144 to R146, R152). -/
def LeakChannel.confirm (l : LeakSettings) (rloc : Nat) (r : LeakChannel) : LeakChannel :=
  { r with state := .confirmed, priorWet := false, location := l.locate rloc, locationSamples := 0 }

/-- A sample of a channel that stays CONFIRMED: the location is measured again every 100 samples, at a WET one (R152). A sample that takes
the channel out of CONFIRMED is not counted, and the count then keeps its value (log entry 40). -/
def LeakChannel.relocate (l : LeakSettings) (cls : SampleClass) (rloc : Nat) (r : LeakChannel) : LeakChannel :=
  if l.locates then
    let n := min 100 (r.locationSamples + 1)
    if n = 100 ∧ cls = .wet then { r with location := l.locate rloc, locationSamples := 0 }
    else { r with locationSamples := n }
  else r

/-- What a sample does to the channel's state after the run is counted (R144 to R146). A run test is made on a sample of the
run's own class. -/
def LeakChannel.advance (l : LeakSettings) (cls : SampleClass) (rloc : Nat) (r : LeakChannel) : LeakChannel :=
  let long := fun n => decide (n ≤ r.runCount)
  match r.state, cls with
  | .dry, .wet => if long l.wetCount then r.confirm l rloc else { r with state := .suspect }
  | .suspect, .wet => if long l.wetCount then r.confirm l rloc else r
  | .suspect, .dry => { r with state := .dry }
  | .dry, .openLoop | .suspect, .openLoop => if long l.openCount then r.openFault false else r
  | .confirmed, .dry => if long l.dryCount then { r with state := .latched } else r.relocate l cls rloc
  | .confirmed, .openLoop => if long l.openCount then r.openFault true else r.relocate l cls rloc
  | .confirmed, .wet | .confirmed, .ambig => r.relocate l cls rloc
  | .latched, .wet => if long l.wetCount then r.confirm l rloc else r
  | .latched, .openLoop => if long l.openCount then r.openFault true else r
  | .openFault, .dry =>
    if long l.dryCount then { r with state := if r.priorWet then .latched else .dry, priorWet := false } else r
  | .openFault, .wet => if long l.wetCount then r.confirm l rloc else r
  | _, _ => r

/-- One sample of a channel as its record takes it (R141 to R146). -/
def LeakChannel.sample (l : LeakSettings) (x : LeakReading) (r : LeakChannel) : LeakChannel :=
  let g := min 65535 x.conductance
  let cls := l.classify g x.loop
  ({ r with lastConductance := g, lastLoop := loopField x.loop }.countRun cls).advance l cls x.loop

/-- One sample of an enabled channel (R141); a DISABLED channel is not driven. -/
def sampleChannel (readings : Vector LeakReading 8) (c : Fin 8) (s : State) : State :=
  if (s.leakCfg c).enabled then putChannel c .sample ((s.channel c).sample (s.leakCfg c) readings[c]) s else s

/-- LEAK_SAMPLE: every enabled channel sampled, in ascending order (R141, R143). -/
def leakSample (readings : Vector LeakReading 8) (s : State) : State :=
  s.forEach (List.finRange 8) (sampleChannel readings)

/-! ## Host requests (R139, R147) -/

/-- A record with its run reset to class none (R139, R147). -/
def LeakChannel.resetRun (r : LeakChannel) : LeakChannel := { r with runClass := none, runCount := 0 }

/-- The channel settings replaced in the working settings. -/
def putLeakCfg (c : Fin 8) (l : LeakSettings) (s : State) : State :=
  s.mapLvs fun v => { v with settings := { v.settings with leaks := v.settings.leaks.set c l } }

/-- What a write of the channel's settings does to its state fields (R139). The measurement that a change back to ROPE with W3_16 makes
at the next WET sample is one that is due: location samples reads 100 until then (log entry 40). -/
def LeakChannel.written (old new : LeakSettings) (r : LeakChannel) : LeakChannel :=
  let r :=
    if old.locates && !new.locates then { r with location := none }
    else if !old.locates && new.locates && r.state == .confirmed then { r with locationSamples := 100 }
    else r
  if !new.enabled then
    (if r.state = .disabled then r else { r.resetRun with state := .disabled, priorWet := false, location := none })
  else if r.state = .disabled then { r.resetRun with state := .dry }
  else r

/-- The zones a written channel applies its policy to: all of them on becoming active wet by its open policy, those newly added
while it is active wet (R139, R150). -/
def policyZones (old new : LeakSettings) (st : LeakState) : List (Fin 8) :=
  if st.active new.openPolicy then
    (if st.active old.openPolicy then new.zones.filter fun z => !old.covers z else new.zones)
  else []

/-- The zones whose delay timers a written channel has judged: all it covered on ceasing to be active wet or on being disabled,
otherwise those removed (R139, R151). -/
def checkedZones (old new : LeakSettings) (was now : LeakState) : List (Fin 8) :=
  if (was.active old.openPolicy && !now.active new.openPolicy) || (old.enabled && !new.enabled) then old.zones
  else old.zones.filter fun z => !new.covers z

/-- New settings of a channel take effect (R139, R148 to R151). -/
def applyLeak (c : Fin 8) (new : LeakSettings) (s : State) : State :=
  let old := s.leakCfg c
  let was := (s.channel c).state
  let r := (s.channel c).written old new
  let s := judgeZones (mapChannel c (fun _ => r) (putLeakCfg c new s))
  let s := applyPolicy c (policyZones old new r.state) s
  let s := s.forEach (checkedZones old new was r.state) checkDelay
  if was = r.state then s else postLeak c was .write s

/-- LEAK_ACK (R147): the status, and the state after. -/
def leakAck (c : Fin 8) (s : State) : Status × State :=
  let r := s.channel c
  match r.state with
  | .latched => (.ok, putChannel c .ack { r.resetRun with state := .dry, location := none } s)
  | .confirmed => (.stillWet, s)
  | .openFault =>
    if r.priorWet then (.ok, putChannel c .ack { r with priorWet := false, location := none } s) else (.state, s)
  | .dry | .suspect | .disabled => (.state, s)

end Sys2Proof.Machine
end

