-- ==== Sys2Proof/Machine/Operands.lean ====
section
/-! DEFINITION. Machine/Operands.lean: what the part reads from the two lines: the characters and frames of the Unit Link (R155 to
R160, R204), and the fields of a request's payload (R200, R202, R205). -/
namespace Sys2Proof.Machine

/-! ## Characters (R157) -/

/-- A bit's value: the one held by at least two of its three deciding samples (R157). -/
def bitValue (b : BitSamples) : Bool := (b.t7 && b.t8) || (b.t7 && b.t9) || (b.t8 && b.t9)

/-- The byte of eight data bits, least significant first (R155, R178). -/
def dataByte (data : Vector BitSamples 8) : Byte := BitVec.ofNat 8 (flagBits (data.toList.map bitValue))

/-- A character whose start bit is decided 1 is a false start and is dropped (R157). -/
def isCharacter (c : LineChar) : Bool := !bitValue c.start

/-- A received character's stop bit is 1 and its mark bit 0 (R157). -/
def isSound (c : LineChar) : Bool := bitValue c.stop && !bitValue c.mark

/-- The byte of a character (R155). -/
def charByte (c : LineChar) : Byte := dataByte c.data

/-- The bytes of an answer's characters, or none when one of them is a framing or mark error (R157). -/
def receivedBytes (chars : List LineChar) : Option (List Byte) :=
  let received := chars.filter isCharacter
  if received.all isSound then some (received.map charByte) else none

/-! ## The Management Port's characters and its receive assembly (R178 to R180) -/

/-- What a character of the Management Port is received as (R178): a start bit decided 1 is a false start, dropped; a stop bit
decided 0 is a framing error. -/
inductive PortReceived where
  | falseStart
  | framingError
  | byte (b : Byte)
deriving DecidableEq, Repr

/-- The reception of one character (R178). -/
def portReceived (c : PortChar) : PortReceived :=
  if bitValue c.start then .falseStart
  else if bitValue c.stop then .byte (dataByte c.data)
  else .framingError

/-- What ends a frame in the receive assembly (R180). -/
inductive AssemblyEnd where
  | framingError
  | lengthAbandon
  | crcDiscard
  | frame (r : Request)
deriving DecidableEq, Repr

/-- The request a whole frame carries, sync byte first (R179). -/
def frameRequest (frame : List Byte) : Option Request :=
  match frame with
  | _ :: len :: kind :: tag :: rest => some ⟨kind, tag, rest.take len.toNat⟩
  | _ => none

/-- The end that the byte completing a frame's count brings: the CRC is checked (R180). -/
def frameEnd (frame : List Byte) : AssemblyEnd :=
  match requestCrcMatches frame.tail, frameRequest frame with
  | true, some r => .frame r
  | _, _ => .crcDiscard

/-- One byte at the receive assembly, whose bytes, the sync byte first, are `held`; none held is HUNTING (R180). -/
def assembleByte (held : List Byte) (b : Byte) : List Byte × Option AssemblyEnd :=
  match held with
  | [] => (if b = 0xA5 then [b] else [], none)
  | [sync] => if 240 < b.toNat then ([], some .lengthAbandon) else ([sync, b], none)
  | _ :: len :: _ =>
    let frame := held ++ [b]
    if frame.length < len.toNat + 6 then (frame, none) else ([], some (frameEnd frame))

/-- One character at the receive assembly (R178, R180). -/
def assembleChar (held : List Byte) (c : PortChar) : List Byte × Option AssemblyEnd :=
  match portReceived c with
  | .falseStart => (held, none)
  | .framingError => ([], some .framingError)
  | .byte b => assembleByte held b

/-- A run of characters at the receive assembly: the bytes then held, and how each frame ended, in order (R180). -/
def assemble (held : List Byte) : List PortChar → List Byte × List AssemblyEnd
  | [] => (held, [])
  | c :: rest =>
    let (held, ended) := assembleChar held c
    let (last, ends) := assemble held rest
    (last, ended.toList ++ ends)

/-! ## Answers (R158, R160, R204) -/

/-- A good answer: the responder's address, the answer kind and the payload. -/
structure Answer where
  address : Nat
  kind : Byte
  payload : List Byte
deriving DecidableEq, Repr

/-- How a transaction's answer was judged (R159, R160). -/
inductive Judgement where
  | good (a : Answer)
  | bad
  | noAnswer
deriving DecidableEq, Repr

/-- The frame an answer's bytes form: its length character is 32 or less, it has length + 4 characters, and its CRC-8 matches
(R158, R160). -/
def answerFrame (bytes : List Byte) : Option Answer :=
  match bytes with
  | address :: kind :: len :: rest =>
    if len.toNat ≤ 32 ∧ rest.length = len.toNat + 1 ∧
        [crc8 ([address, kind, len] ++ rest.take len.toNat)] = rest.drop len.toNat then
      some ⟨address.toNat, kind, rest.take len.toNat⟩
    else none
  | _ => none

/-- The responder is the call's target, or lies within the range of an EVENT_CALL (R160). -/
def Transaction.answersFrom (t : Transaction) (address : Nat) : Bool :=
  match t with
  | .poll u _ | .discovery u | .eventRead u _ => address == u.address
  | .eventCall r _ => r.lo ≤ address && address ≤ r.hi
  | .command rec => address == rec.target.address
  | .pass a _ => address == a

/-- The kind and length of the STATUS answer of a unit's kind; a unit power above 3 makes a slot's bad (R204). -/
def statusFits (u : UnitId) (a : Answer) : Bool :=
  match u with
  | .rectifier _ => a.kind == 0x81 && a.payload.length == 3
  | .battery _ => a.kind == 0x82 && a.payload.length == 2
  | .slot _ =>
    match a.payload with
    | [power, _, _] => a.kind == 0x83 && power.toNat ≤ 3
    | _ => false

/-- The answer kind and length fit the call (R160, R204). -/
def Transaction.fits (t : Transaction) (a : Answer) : Bool :=
  match t with
  | .poll u _ | .discovery u => statusFits u a
  | .eventCall _ _ => a.kind == 0x90 && a.payload.length == 0
  | .eventRead _ _ => a.kind == 0x91 && a.payload.length == 5
  | .command _ => (a.kind == 0xA0 || a.kind == 0xA1) && a.payload.length == 0
  | .pass _ _ => true

/-- The judgement of the characters received in a transaction's answer (R160). -/
def Transaction.judge (t : Transaction) (chars : List LineChar) : Judgement :=
  match receivedBytes chars with
  | none => .bad
  | some bytes =>
    match answerFrame bytes with
    | none => .bad
    | some a =>
      if (UnitId.ofAddress a.address).isSome && t.answersFrom a.address && t.fits a then .good a else .bad

/-! ## Request payloads (R205) -/

/-- A field naming one of `n` things: slots, modules, channels, zones. -/
def finOf (n : Nat) (b : Byte) : Option (Fin n) := if h : b.toNat < n then some ⟨b.toNat, h⟩ else none

/-- A yes-or-no byte of a request: 0 or 1 (R200). -/
def boolOf (b : Byte) : Option Bool := if b = 0 then some false else if b = 1 then some true else none

/-- The level a byte names (R193, R200). -/
def levelOf (b : Byte) : Option Level := if b = 0 then some .configure else if b = 1 then some .supervise else none

/-! ### Plan steps (R114, R117, R202) -/

/-- The await a byte names. -/
def awaitOf (b : Byte) : Option Await :=
  if b = 0 then some .none else if b = 1 then some .ack else if b = 2 then some .ready else none

/-- The on_timeout a byte names. -/
def onTimeoutOf (b : Byte) : Option OnTimeout := if b = 0 then some .skip else if b = 1 then some .hold else none

/-- A list of slot bytes as distinct slot numbers; none when one is above 47 or appears twice (R117). -/
def slotsOf : List Byte → Option (List (Fin 48))
  | [] => some []
  | b :: rest =>
    match finOf 48 b, slotsOf rest with
    | some n, some l => if l.contains n then none else some (n :: l)
    | _, _ => none

/-- A plan step as a record carries it, its numbers not yet clamped; none for a record R117 refuses (R202). -/
def stepOf (record : List Byte) : Option PlanStep :=
  match record with
  | [count, s0, s1, s2, s3, s4, s5, s6, s7, m0, m1, await, t0, t1, t2, t3, late] =>
    if count.toNat ≤ 8 then
      match slotsOf ([s0, s1, s2, s3, s4, s5, s6, s7].take count.toNat), awaitOf await, onTimeoutOf late with
      | some slots, some await, some onTimeout => some ⟨slots, nat16 m0 m1, await, nat32 t0 t1 t2 t3, onTimeout⟩
      | _, _, _ => none
    else none
  | _ => none

/-- A step with its settle_ms and ready_timeout_ms clamped to their ranges (R114, R117). -/
def PlanStep.clamped (p : PlanStep) : PlanStep :=
  { p with settleMs := clamp 0 60000 p.settleMs, readyTimeoutMs := clamp 100 600000 p.readyTimeoutMs }

/-- The step records of a payload, 17 bytes each; none when one is refused (R117, R202). -/
def stepsOf : Nat → List Byte → Option (List PlanStep)
  | 0, _ => some []
  | k + 1, bytes =>
    match stepOf (bytes.take 17), stepsOf k (bytes.drop 17) with
    | some p, some l => some (p :: l)
    | _, _ => none

/-! ### Poll Table entries (R165, R205) -/

/-- A Poll Table entry: a unit's address, or 0x00 for an EVENT_ROUND marker. -/
def pollEntryOf (b : Byte) : Option PollEntry :=
  if b = 0 then some .eventRound else (UnitId.ofAddress b.toNat).map .unit

/-- The entries of a WRITE_POLL_TABLE; none when one is neither. -/
def pollEntriesOf : List Byte → Option (List PollEntry)
  | [] => some []
  | b :: rest =>
    match pollEntryOf b, pollEntriesOf rest with
    | some e, some l => some (e :: l)
    | _, _ => none

/-! ### Leak channel settings (R139, R205) -/

/-- The settings fields of a WRITE_LEAK as its 22 bytes carry them, in block order. -/
structure LeakFields where
  enabled : Byte
  kind : Byte
  zoneSet : Byte
  policy : Byte
  openPolicy : Byte
  wetThreshold : Nat
  dryThreshold : Nat
  wetCount : Nat
  dryCount : Nat
  openCount : Nat
  isolateDelayMs : Nat
  pulseWidth : Byte
  rlead : Nat
  rpm : Nat
  ropeLengthCm : Nat
deriving DecidableEq, Repr

/-- The fields of 22 setting bytes. -/
def leakFieldsOf (bytes : List Byte) : Option LeakFields :=
  match bytes with
  | [en, kind, zs, pol, op, w0, w1, d0, d1, wc, c0, c1, oc, i0, i1, pw, l0, l1, r0, r1, p0, p1] =>
    some ⟨en, kind, zs, pol, op, nat16 w0 w1, nat16 d0 d1, wc.toNat, nat16 c0 c1, oc.toNat, nat16 i0 i1, pw, nat16 l0 l1,
      nat16 r0 r1, nat16 p0 p1⟩
  | _ => none

/-- The sensor kind a byte names. -/
def leakKindOf (b : Byte) : Option LeakKind := if b = 0 then some .rope else if b = 1 then some .spot else none

/-- The policy a byte names. -/
def leakPolicyOf (b : Byte) : Option LeakPolicy :=
  if b = 0 then some .alarm else if b = 1 then some .isolate else if b = 2 then some .isolateDelayed else none

/-- The open policy a byte names. -/
def openPolicyOf (b : Byte) : Option OpenPolicy := if b = 0 then some .asDry else if b = 1 then some .asWet else none

/-- The pulse width a byte names. -/
def pulseWidthOf (b : Byte) : Option PulseWidth := if b = 0 then some .w3of16 else if b = 1 then some .w1of16 else none

/-- A selected field's value, or the present one. -/
def select {α : Type} (mask : Nat) (bit : Nat) (new : Option α) (present : α) : Option α :=
  if mask.testBit bit then new else some present

/-- A selected numeric field clamped to its range, or the present value. -/
def selectClamp (mask bit lo hi new present : Nat) : Nat := if mask.testBit bit then clamp lo hi new else present

/-- The settings a WRITE_LEAK leaves, with whether a value was clamped; none when an enumerated field or the zone set is refused
(R139). A field whose mask bit is clear is not judged, the enabled byte neither (log entry 43). A DryThreshold above the WetThreshold left in force takes its value, and a WetThreshold written below the DryThreshold
in force lowers it. -/
def leakWritten (mask : Nat) (f : LeakFields) (old : LeakSettings) : Option (LeakSettings × Bool) :=
  match select mask 0 (boolOf f.enabled) old.enabled, select mask 1 (leakKindOf f.kind) old.kind,
      select mask 2 (if f.zoneSet = 0 then none else some f.zoneSet) old.zoneSet,
      select mask 3 (leakPolicyOf f.policy) old.policy, select mask 4 (openPolicyOf f.openPolicy) old.openPolicy,
      select mask 11 (pulseWidthOf f.pulseWidth) old.pulseWidth with
  | some enabled, some kind, some zoneSet, some policy, some openPolicy, some pulseWidth =>
    let wet := selectClamp mask 5 1 10000 f.wetThreshold old.wetThreshold
    let dry := selectClamp mask 6 0 10000 f.dryThreshold old.dryThreshold
    let new : LeakSettings :=
      { enabled, kind, zoneSet, policy, openPolicy
        wetThreshold := wet
        dryThreshold := min dry wet
        wetCount := selectClamp mask 7 1 255 f.wetCount old.wetCount
        dryCount := selectClamp mask 8 1 1000 f.dryCount old.dryCount
        openCount := selectClamp mask 9 1 255 f.openCount old.openCount
        isolateDelayMs := selectClamp mask 10 0 10000 f.isolateDelayMs old.isolateDelayMs
        pulseWidth
        rlead := selectClamp mask 12 0 65535 f.rlead old.rlead
        rpm := selectClamp mask 13 1 65535 f.rpm old.rpm
        ropeLengthCm := selectClamp mask 14 0 6000 f.ropeLengthCm old.ropeLengthCm }
    let differs := fun (bit asked stored : Nat) => mask.testBit bit && asked != stored
    some (new,
      differs 5 f.wetThreshold new.wetThreshold || differs 6 f.dryThreshold new.dryThreshold || dry != new.dryThreshold ||
        differs 7 f.wetCount new.wetCount || differs 8 f.dryCount new.dryCount || differs 9 f.openCount new.openCount ||
        differs 10 f.isolateDelayMs new.isolateDelayMs || differs 12 f.rlead new.rlead || differs 13 f.rpm new.rpm ||
        differs 14 f.ropeLengthCm new.ropeLengthCm)
  | _, _, _, _, _, _ => none

end Sys2Proof.Machine
end

