-- ==== Sys2Proof/Machine/Poll.lean ====
section
/-! DEFINITION. Machine/Poll.lean: the Poll Table, its cycles and the event round's ranges (R165 to R167), and the port's reply buffer
that a pass-through's end fills (R181, R185). -/
namespace Sys2Proof.Machine

/-! ## Cycles (R166, R173) -/

/-- The pass-through slot waits for its call (R173). -/
def Ulc.passWaiting (u : Ulc) : Bool :=
  match u.pass with
  | some p => !p.sent
  | none => false

/-- A cycle starts with the cursor at 0 (R166). -/
def Ulc.startCycle (u : Ulc) : Ulc := { u with cycleRunning := true, cursor := 0 }

/-- A pending cycle start begins (R173). -/
def Ulc.startPendingCycle (u : Ulc) : Ulc := { u.startCycle with startPending := false }

/-- The cycle ends; a pending start begins at once when neither Q1 nor the pass-through waits (R166, R173). -/
def Ulc.endCycle (u : Ulc) : Ulc :=
  let u := { u with cycleRunning := false }
  if u.startPending && u.q1.isEmpty && !u.passWaiting then u.startPendingCycle else u

/-- The current range is dropped and the stack's top becomes current; with the stack empty the round ends and the cursor
advances (R167). -/
def Ulc.dropRange (u : Ulc) : Ulc :=
  match u.stack with
  | r :: rest => { u with current := some r, stack := rest, toRead := none }
  | [] => { u with current := none, toRead := none, cursor := u.cursor + 1 }

/-- A range of the single address of a QUIET unit (R164, R167). -/
def Ulc.quietRange (u : Ulc) (r : AddrRange) : Bool :=
  r.lo == r.hi &&
    match UnitId.ofAddress r.lo with
    | some x => (u.units.get x).presence == .quiet
    | none => false

/-- One entry or range that needs no transaction is passed over (R164, R166, R167); `none` when the cursor stands at work that
is due, or no cycle runs. -/
def Ulc.passOver (table : List PollEntry) (u : Ulc) : Option Ulc :=
  if u.cycleRunning then
    match table[u.cursor]? with
    | none => some u.endCycle
    | some (.unit x) => if (u.units.get x).presence = .quiet then some { u with cursor := u.cursor + 1 } else none
    | some .eventRound =>
      match u.current, u.toRead with
      | some r, none => if u.quietRange r then some u.dropRange else none
      | _, _ => none
  else none

/-- Everything that needs no transaction is passed over, as far as the fuel goes. -/
def Ulc.settle (table : List PollEntry) : Nat → Ulc → Ulc
  | 0, u => u
  | fuel + 1, u =>
    match u.passOver table with
    | some v => v.settle table fuel
    | none => u

/-- The cursor comes to rest at work that is due, or the cycle ends. The fuel covers two passes of the table and the stack. -/
def settlePoll (s : State) : State :=
  s.mapUlc fun u => u.settle s.cfg.pollTable (2 * s.cfg.pollTable.length + u.stack.length + 4)

/-- The cursor advances past its entry (R166). -/
def advancePoll (s : State) : State := settlePoll (s.mapUlc fun u => { u with cursor := u.cursor + 1 })

/-- The link overrun of an expiry that finds a cycle in progress (R166). -/
def Ulc.overrun (u : Ulc) : Ulc :=
  { u with linkOverrun := true, overrunCount := min 65535 (u.overrunCount + 1), startPending := true }

/-- POLL_CYCLE_EXPIRY: the cycle timer expires and restarts (R166). A cycle whose last entries are passed over has ended, and is not
overrun. -/
def pollCycleExpiry (s : State) : State :=
  if s.ulc.cycleTimer.isSome then
    settlePoll ((settlePoll s).mapUlc fun u =>
      let u := { u with cycleTimer := some s.cfg.pollCycleMs }
      if u.cycleRunning then u.overrun else u.startCycle)
  else s

/-! ## The Poll Table (R165) -/

/-- A transaction whose poll entry or round has been abandoned (R165, R176): its outcome acts on the Unit Table alone. -/
def Transaction.detach : Transaction → Transaction
  | .poll u _ => .poll u false
  | .eventCall r _ => .eventCall r false
  | .eventRead u _ => .eventRead u false
  | t => t

/-- A round transaction whose round has been abandoned (R176). -/
def Transaction.detachRound : Transaction → Transaction
  | .eventCall r _ => .eventCall r false
  | .eventRead u _ => .eventRead u false
  | t => t

/-- An event round in progress is abandoned, its Split Stack and current range cleared (R165, R176, R177). -/
def Ulc.abandonRound (u : Ulc) : Ulc := { u with current := none, toRead := none, stack := [] }

/-- The Poll Table is replaced (R165). -/
def applyPollTable (table : List PollEntry) (s : State) : State :=
  let s := s.mapLvs fun l => { l with settings := { l.settings with pollTable := table } }
  settlePoll (s.mapUlc fun u =>
    { u.abandonRound with cursor := 0, transaction := u.transaction.map Transaction.detach })

/-- An entry into SUPERVISE fills an empty Poll Table with its default (R165, R195). -/
def applyDefaultTable (s : State) : State :=
  if s.cfg.pollTable.isEmpty then
    (applyPollTable defaultPollTable s).mapLvs fun l =>
      { l with dirty := true, commit := l.commit.map fun c => { c with defaultApplied := true } }
  else s

/-! ## The port's reply buffer (R181, R183) -/

/-- Build the reply to a request; the pending-request buffer is then free (R181). -/
def buildReply (r : Request) (resp : Response) (s : State) : State :=
  s.mapMgp fun m => { m.startReply (replyFrame r.kind r.tag resp) with pending := .free }

/-- The pass-through slot is freed and the deferred reply built (R174, R185). -/
def endPass (resp : Response) (s : State) : State :=
  let s := s.mapUlc fun u => { u with pass := none }
  match s.mgp.pending with
  | .deferred r => buildReply r resp s
  | _ => s

/-- The TIMEOUT reply with its cause: NO_ANSWER 0, BAD_ANSWER 1, NOT_SENT 2 (R184, R200). -/
def timeoutFor (cause : Nat) : Response := ⟨.timeout, false, u8 cause⟩

/-- PASS_THROUGH_NOT_SENT: the 1,000 ms limit is reached with the call not granted (R185). -/
def passThroughNotSent (s : State) : State := if s.ulc.passWaiting then endPass (timeoutFor 2) s else s

end Sys2Proof.Machine
end

