-- ==== Sys2Proof/Machine/Levels.lean ====
section
/-! DEFINITION. Machine/Levels.lean: Level and Settings (chapter 10): levels, settings taking effect, the commit, the reload, the end
of the start-up sequence and the warm restart. -/
namespace Sys2Proof.Machine

/-! ## Levels (R192, R193, R198) -/

/-- The level is entered; an entry into SUPERVISE applies the default Poll Table, and the first such entry handles the start-up
plan (R193, R198). -/
def enterLevel (l : Level) (s : State) : State :=
  let first := l = .supervise ∧ s.lvs.supervised = false
  let s := s.mapLvs fun v => { v with level := l, supervised := v.supervised || l == .supervise }
  let s := if l = .supervise then applyDefaultTable s else s
  if first then sequencerSupervised s else s

/-- The warm restart's entry into StartLevel: the start-up plan is not promoted (R199). -/
def enterLevelWarm (l : Level) (s : State) : State :=
  let s := s.mapLvs fun v => { v with level := l, supervised := v.supervised || l == .supervise }
  if l = .supervise then applyDefaultTable s else s

/-- How many of a list of units are PRESENT (R198). -/
def State.presentCount (s : State) (l : List UnitId) : Nat := (l.filter fun u => s.presence u = .present).length

/-- Post STARTED (R198, R199, R201): COLD 0 or WARM 1, with the settings flag. -/
def postStarted (warm flag : Bool) (s : State) : State :=
  post .started 0
    (flagByte warm ++ flagByte flag ++ u8 s.cfg.startLevel.code ++
      u8 (s.presentCount ((List.finRange 6).map .rectifier)) ++ u8 (s.presentCount ((List.finRange 4).map .battery)) ++
      u8 (s.presentCount ((List.finRange 48).map .slot))) s

/-- The report that discovery has ended completes the start-up sequence (R198). The StartLevel entered, and carried by STARTED, is the
one held at this moment, also where it was written while the sequence was in progress (DESIGN CHOICE, log entry 47). -/
def completeStartUp (s : State) : State :=
  (enterLevel s.cfg.startLevel (postStarted false s.lvs.defaulted s)).mapLvs fun l => { l with startingUp := false }

/-! ## Settings taking effect (R194 and each setting's own rule) -/

/-- What a written setting changes beyond its value, the value already in the working settings. -/
def settingEffect (k : SettingKey) (s : State) : State :=
  match k with
  | .lineFrequency => applyLineFrequency s
  | .phaseStableCount => applyStableCount s
  | .rectifierRating _ => recomputeCapacity s
  | .rectifierFeed k => feedJudged k s
  | .redundancy => recomputeCapacity s
  | .retryLimit => applyRetryLimit s
  | .rampCeilingW => clampRamp s
  | .batteryCapacity i => applyCapacity i s
  | .reservePct => markAll s
  | .defaultR => applyDefaultR s
  | .linkDivN | .linkDivK =>
    s.mapUlc fun u => if u.line = .idle then { u with divN := s.cfg.linkDivN, divK := s.cfg.linkDivK } else u
  | .halfPeriodTolerancePct | .retryDelayMs | .retryWindowS | .headroomW | .coverageRequired | .rampDecayW | .testCurrentA
  | .testMinSocPct | .holdupRequiredS | .vcutModule | .efficiency | .dischargeThresh | .acStableMs | .shedSettleMs
  | .autoRestore | .restoreSettleMs | .autoStartPlan | .pollCycleMs | .arbiterStrategy | .responseTimeoutCode
  | .cmdRetries | .mgmtBitRate | .hostSilenceS | .startLevel => s

/-- A setting takes a value, as coded, at once (R194). -/
def applySetting (k : SettingKey) (v : Nat) (s : State) : State :=
  settingEffect k (s.mapLvs fun l => { l with settings := l.settings.put k v })

/-- An accepted write sets the settings-dirty flag (R194). -/
def markDirty (s : State) : State := s.mapLvs fun l => { l with dirty := true }

/-! ## Reload (R196, R199) -/

/-- A setting of an image that differs from the working one takes effect as its write would. -/
def reloadSetting (image : Settings) (k : SettingKey) (s : State) : State :=
  if s.cfg.get k = image.get k then s else applySetting k (image.get k) s

/-- A slot's settings of an image take effect: as their writes would at a revert (R4, R5, R196), which `seeds` says, and at the warm
restart with the changes of slot state that R30 lists. -/
def reloadSlot (seeds : Bool) (image : Settings) (n : Fin 48) (s : State) : State :=
  if s.slotCfg n = image.slots[n] then s else applySlot seeds n (slotReload (s.slotCfg n) image.slots[n]) s

/-- A leak channel's settings of an image take effect (R139, R154). -/
def reloadLeak (image : Settings) (c : Fin 8) (s : State) : State :=
  if s.leakCfg c = image.leaks[c] then s else applyLeak c image.leaks[c] s

/-- The Poll Table of an image, taken as a write where it differs (R165, R176). -/
def reloadTable (image : Settings) (s : State) : State :=
  if s.cfg.pollTable = image.pollTable then s else applyPollTable image.pollTable s

/-- Every working setting is loaded from an image, each that changes taking effect, in the order of the setting numbers and then
slots, leak channels, the Poll Table and the stored plan; the settings-dirty flag is cleared (R196). -/
def reload (seeds : Bool) (image : Settings) (s : State) : State :=
  let s := s.forEach allSettingKeys (reloadSetting image)
  let s := s.forEach (List.finRange 48) (reloadSlot seeds image)
  let s := s.forEach (List.finRange 8) (reloadLeak image)
  (reloadTable image s).mapLvs fun l =>
    { l with settings := { l.settings with storedPlan := image.storedPlan }, dirty := false }

/-! ## The commit (R195) -/

/-- An accepted COMMIT_SETTINGS takes a copy and marks the image invalid (R195). -/
def beginCommit (s : State) : State :=
  s.mapLvs fun l => { l with image := none, commit := some ⟨l.settings.forImage, false⟩ }

/-- COMMIT_COMPLETION: the image is read back (R195). At FAILED the settings-dirty flag keeps its value: it stays set, and where the
commit was accepted with the flag clear it stays clear, beside an image now invalid (DESIGN CHOICE, log entry 46). -/
def commitCompletion (imageMatches : Bool) (s : State) : State :=
  match s.lvs.commit with
  | none => s
  | some c =>
    if imageMatches then
      post .commitDone 0 (u8 0) (s.mapLvs fun l =>
        { l with image := some c.copy, dirty := l.dirty && c.defaultApplied, commit := none })
    else post .commitDone 0 (u8 1) (s.mapLvs fun l => { l with commit := none })

/-! ## The warm restart (R199) -/

/-- The Management Port and the Notice Queue at the warm restart (R191). -/
def clearPort (s : State) : State :=
  (s.mapMgp fun m =>
    { m.endReply with assembly := [], pending := .free, crcDiscards := 0, portOverrun := false }).mapNq fun _ =>
      ⟨[], false, false⟩

/-- A record of Q1 that the warm restart has withdrawn, at its origin: a slot whose POWER ON was queued goes to OFF (R30), a
module whose retry ENABLE was queued goes to DUE (R49). -/
def withdrawnAtRestart (rec : CommandRecord) (s : State) : State :=
  match rec.kind, rec.target with
  | .powerOn, .slot n => unenergize n (recordWithdrawn rec s)
  | .enable, .rectifier k =>
    if rec.retry ∧ s.isRetrying k .enabling then
      mapRect k (fun r => { r with retryPhase := some .due, retryTimer := none }) s
    else s
  | _, _ => s

/-- Q1 emptied as withdrawals (R176). -/
def clearQ1 (s : State) : State :=
  let gone := s.ulc.q1
  (s.mapUlc fun u => { u with q1 := [] }).forEach gone withdrawnAtRestart

/-- A round in progress is abandoned at the warm restart (R176). -/
def restartRounds (s : State) : State :=
  s.mapUlc fun u => { u.abandonRound with transaction := u.transaction.map Transaction.detachRound }

/-- A TEST_LOAD OFF for the module of the test context stands in Q1 (R89). -/
def State.offQueued (s : State) : Bool :=
  match s.bmn.test.module with
  | some i => s.ulc.q1.any (isTestCall i .testLoadOff)
  | none => false

/-- Start the host-silence timer at its setting, stopped at 0 (R190). -/
def startSilence (s : State) : State :=
  s.mapMgp fun m => { m with silenceTimer := if s.cfg.hostSilenceS = 0 then none else some (s.cfg.hostSilenceS * 1000) }

/-- The reload of a restart, made when the image is valid (R30, R199). -/
def restartReload (s : State) : State :=
  match s.lvs.image with
  | some image => reload false image s
  | none => s

/-- The warm restart takes effect (R199). -/
def warmRestart (s : State) : State :=
  let offQueued := s.offQueued
  let s := restartRounds (clearQ1 (clearPort s))
  let s := batteryRestart offQueued (sequencerRestart s)
  let made := s.lvs.image.isSome
  let s := restartReload s
  let s := s.mapMgp fun m => { m with hostSilent := false, restartDue := false }
  let s := enterLevelWarm s.cfg.startLevel (startSilence s)
  postStarted true made s

/-! ## Power-on reset (R197) -/

/-- POWER_ON_RESET: the image is nonvolatile; everything else starts anew from it, or from the defaults where it is invalid. -/
def powerOnReset (s : State) : State :=
  let image := s.lvs.image
  let started := match image with
    | some cfg => State.started cfg image false
    | none => State.started .default none true
  { started with pending := s.pending }

end Sys2Proof.Machine
end

