-- ==== Sys2Proof/Machine/UnitLink.lean ====
section
/-! DEFINITION. Machine/UnitLink.lean: the Unit Link Controller (chapter 8): the line states, the Unit Table, the outcomes of
transactions, the arbiter, and the Unit Link reset. -/
namespace Sys2Proof.Machine

/-! ## Commands completed (R172) -/

/-- A completed command goes to its record's origin (R172). -/
def completeCommand (rec : CommandRecord) (o : CallOutcome) (s : State) : State :=
  match rec.kind, rec.target with
  | .powerOn, .slot n => powerOnOutcome n o s
  | .powerOff, .slot n => powerOffOutcome n o s
  | .enable, .rectifier k | .disable, .rectifier k => moduleOutcome k rec.kind rec.retry o s
  | .testLoadOn, .battery i | .testLoadOff, .battery i => testLoadOutcome i rec.kind o s
  | _, _ => s

/-- A queued command completed as failed with cause QUIET (R164, R173): the charged inrush of an unsent POWER ON goes back
(R11). -/
def failQuiet (rec : CommandRecord) (s : State) : State :=
  match rec.kind, rec.target with
  | .powerOn, .slot n => completeCommand rec .failedQuiet (giveBackInrush n s)
  | _, _ => completeCommand rec .failedQuiet s

/-- A record returns to the head of the queue it came from (R172). -/
def pushHead (rec : CommandRecord) (s : State) : State :=
  s.mapUlc fun u => if rec.kind.urgent then { u with q0 := rec :: u.q0 } else { u with q1 := rec :: u.q1 }

/-- A newer POWER call for the record's slot is queued (R172). -/
def State.superseded (s : State) (rec : CommandRecord) : Bool :=
  rec.kind.isPower && s.ulc.isQueued fun q => q.kind.isPower && q.target == rec.target

/-- A record returns to the head of its queue, or is completed as withdrawn when a newer POWER call stands for its slot (R172). -/
def returnRecord (rec : CommandRecord) (s : State) : State :=
  if s.superseded rec then completeCommand rec .withdrawn s else pushHead rec s

/-! ## The Unit Table (R162 to R164) -/

/-- Change a unit's record. -/
def mapUnit (x : UnitId) (f : UnitRecord → UnitRecord) (s : State) : State :=
  s.mapUlc fun u => { u with units := u.units.put x (f (u.units.get x)) }

/-- Post UNIT_PRESENCE for a change from `old` to the presence the unit now has (R163, R201). -/
def postPresence (x : UnitId) (old : Presence) (s : State) : State :=
  post .unitPresence 0 (u8 x.address ++ u8 old.code ++ u8 (s.presence x).code) s

/-- A unit that goes MISSING is reported to the block that owns it (R163). -/
def reportMissing (x : UnitId) (s : State) : State :=
  match x with
  | .rectifier k => rectifierMissing k s
  | .battery i => batteryMissing i s
  | .slot n => slotMissing n s

/-- A good STATUS answer handed to the block that owns the unit; `first` says that it made the unit PRESENT (R163, R204). -/
def reportStatus (first : Bool) (x : UnitId) (payload : List Byte) (s : State) : State :=
  match x, payload with
  | .rectifier k, [flags, code, derate] =>
    rectifierAnswer k ⟨flags.getLsbD 0, flags.getLsbD 1, code, derate.toNat⟩ s
  | .battery i, [percent, flags] =>
    let a : BatteryAnswer := ⟨percent.toNat, flags.getLsbD 0, flags.getLsbD 1, flags.getLsbD 2⟩
    if first then batterySeed i a s else batteryAnswer i a s
  | .slot n, [power, hi, lo] =>
    let p : UnitPower :=
      if power = 0 then .off else if power = 1 then .starting else if power = 2 then .ready else .fault
    slotAnswer n ⟨p, nat16 hi lo⟩ s
  | _, _ => s

/-- A good STATUS answer at the Unit Table (the table of R163). UNIT_PRESENCE is posted before the block that owns the unit acts and
posts its own notices (DEDUCED, log entry 15: R163 gives no order). -/
def statusGood (x : UnitId) (payload : List Byte) (s : State) : State :=
  let old := s.presence x
  let answered := mapUnit x (fun r => { r with presence := .present, misses := 0 }) s
  match old with
  | .unknown | .missing => reportStatus true x payload (postPresence x old answered)
  | .present => reportStatus false x payload answered
  | .quiet => s

/-- A STATUS transaction that ended with no answer or a bad answer (the table of R163). UNIT_PRESENCE is posted before the block
that owns the unit acts and posts its own notices (DEDUCED, log entry 15: R163 gives no order). -/
def statusMissed (x : UnitId) (s : State) : State :=
  let old := s.presence x
  let misses := min 3 ((s.ulc.units.get x).misses + 1)
  let counted := mapUnit x (fun r => { r with misses := misses }) s
  match old with
  | .unknown | .present =>
    if misses = 3 then
      reportMissing x (postPresence x old (mapUnit x (fun r => { r with presence := .missing }) counted))
    else counted
  | .missing => counted
  | .quiet => s

/-- The queued calls for a unit, taken out and completed as failed with cause QUIET (R164). -/
def failCallsFor (x : UnitId) (s : State) : State :=
  let pick := fun rec : CommandRecord => rec.target == x
  let gone := s.ulc.q0.filter pick ++ s.ulc.q1.filter pick
  (s.mapUlc fun u => { u with q0 := u.q0.filter fun r => !pick r, q1 := u.q1.filter fun r => !pick r }).forEach gone failQuiet

/-- A unit becomes QUIET, with the presence then held as its prior one; like every change of presence it posts UNIT_PRESENCE (R163,
R164). A unit that is QUIET already keeps its record. The blocks that own units change no state at the mark (R6, R34, R69). -/
def becomeQuiet (x : UnitId) (s : State) : State :=
  let old := s.presence x
  if old = .quiet then s
  else postPresence x old (mapUnit x (fun r => { r with prior := some old, presence := .quiet }) s)

/-- A unit is marked QUIET, its queued calls fail, and UNIT_QUIET is posted (R161, R164; log entry 15 for the order). -/
def markQuiet (x : UnitId) (cause : JabberCause) (s : State) : State :=
  post .unitQuiet 0 (u8 x.address ++ u8 cause.ctorIdx) (failCallsFor x (becomeQuiet x s))

/-- A QUIET mark is cleared (R164). -/
def unquiet (x : UnitId) (s : State) : State :=
  postPresence x .quiet (mapUnit x (fun r =>
    { r with presence := r.prior.getD .unknown, prior := none, misses := 0 }) s)

/-- Mark the unit that jabber names, if it names one (R161). -/
def markJabber (x : Option UnitId) (jabber : Option JabberCause) (s : State) : State :=
  match x, jabber with
  | some x, some cause => markQuiet x cause s
  | _, _ => s

/-! ## Discovery (R161a) -/

/-- The place of the first unit from a place on that is not QUIET (R161a, R164). -/
def State.nextDiscovery (s : State) (place : Nat) : Option Nat :=
  (List.range 58).find? fun k => place ≤ k && match allUnits[k]? with
    | some x => !s.isQuiet x
    | none => false

/-- Discovery has ended: the start-up sequence is completed and the cycle timer starts (R161a). -/
def endDiscovery (s : State) : State :=
  let s := completeStartUp (s.mapUlc fun u => { u with discovery := none })
  s.mapUlc fun u => { u with cycleTimer := some s.cfg.pollCycleMs }

/-- Discovery goes on from a place, or ends. -/
def discoverFrom (place : Nat) (s : State) : State :=
  match s.nextDiscovery place with
  | some k => s.mapUlc fun u => { u with discovery := some k }
  | none => endDiscovery s

/-- The discovery transaction in flight has ended. -/
def advanceDiscovery (s : State) : State :=
  match s.ulc.discovery with
  | some k => discoverFrom (k + 1) s
  | none => s

/-! ## Outcomes (R163, R167, R168, R172, R174) -/

/-- The outcome of a STATUS transaction at the Unit Table (R163, R164). -/
def statusOutcome (x : UnitId) (j : Judgement) (jabber : Option JabberCause) (s : State) : State :=
  match j with
  | .good a => statusGood x a.payload s
  | .bad | .noAnswer => markJabber (some x) jabber (statusMissed x s)

/-- The current range is dropped (R167). -/
def dropRange (s : State) : State := settlePoll (s.mapUlc Ulc.dropRange)

/-- A range of more than one address is split (R167). -/
def Ulc.split (r : AddrRange) (u : Ulc) : Ulc :=
  let half := (r.hi - r.lo + 1) / 2
  { u with current := some ⟨r.lo, r.lo + half - 1⟩, stack := ⟨r.lo + half, r.hi⟩ :: u.stack }

/-- The unit an EVENT_CALL over a single address calls (R161). -/
def AddrRange.single (r : AddrRange) : Option UnitId := if r.lo = r.hi then UnitId.ofAddress r.lo else none

/-- The outcome of an EVENT_CALL of the round in progress (R167). -/
def eventCallOutcome (r : AddrRange) (j : Judgement) (jabber : Option JabberCause) (s : State) : State :=
  match j with
  | .noAnswer => dropRange s
  | .good a =>
    match UnitId.ofAddress a.address with
    | some x => if s.isQuiet x then dropRange s else s.mapUlc fun u => { u with toRead := some x }
    | none => dropRange s
  | .bad =>
    if r.lo < r.hi then s.mapUlc (Ulc.split r)
    else dropRange (markJabber r.single jabber (post .eventNoise 0 (u8 r.lo) s))

/-- The outcome of an EVENT_READ at the Unit Table (R168). -/
def eventReadOutcome (x : UnitId) (j : Judgement) (jabber : Option JabberCause) (s : State) : State :=
  match j with
  | .good a =>
    match a.payload with
    | code :: data =>
      post .unitEvent 0 (u8 x.address ++ u8 x.kindCode ++ [code] ++ data)
        (mapUnit x (fun r => { r with lastEvent := some ⟨code, data, s.partTime⟩ }) s)
    | [] => s
  | .bad | .noAnswer => markJabber (some x) jabber s

/-- An unanswered command: sent again while its tries allow, otherwise failed (R172). -/
def commandUnanswered (rec : CommandRecord) (s : State) : State :=
  if rec.tries < s.cfg.cmdRetries then returnRecord { rec with tries := rec.tries + 1 } s
  else completeCommand rec .failedRetries s

/-- The outcome of a command transaction (R172). -/
def commandOutcome (rec : CommandRecord) (j : Judgement) (jabber : Option JabberCause) (s : State) : State :=
  match j, jabber with
  | .good a, _ => completeCommand rec (if a.kind = 0xA0 then .acknowledged else .failedNak) s
  | _, some cause => completeCommand rec .failedQuiet (markQuiet rec.target cause s)
  | _, none => commandUnanswered rec s

/-- The outcome of a pass-through transaction (R174). -/
def passOutcome (address : Nat) (j : Judgement) (jabber : Option JabberCause) (s : State) : State :=
  match j with
  | .good a => endPass (okWith ([a.kind] ++ a.payload)) s
  | .noAnswer => endPass (timeoutFor 0) s
  | .bad => endPass (timeoutFor 1) (markJabber (UnitId.ofAddress address) jabber s)

/-- The outcome of a transaction goes to the work that made it (R159). -/
def transactionOutcome (t : Transaction) (j : Judgement) (jabber : Option JabberCause) (s : State) : State :=
  match t with
  | .poll x live => if live then advancePoll (statusOutcome x j jabber s) else statusOutcome x j jabber s
  | .discovery x => advanceDiscovery (statusOutcome x j jabber s)
  | .eventCall r live => if live then eventCallOutcome r j jabber s else markJabber r.single jabber s
  | .eventRead x live =>
    if live then dropRange (eventReadOutcome x j jabber s) else eventReadOutcome x j jabber s
  | .command rec => commandOutcome rec j jabber s
  | .pass a _ => passOutcome a j jabber s

/-- The line goes to GUARD with no transaction (R159). -/
def releaseLine (s : State) : State :=
  s.mapUlc fun u => { u with line := .guarded, transaction := none, sending := [], responseTimer := none }

/-- A transaction ends with a judgement (R159). The entry or range at which its outcome leaves the poll is passed over at once where
its unit has become QUIET (R164, R166, R167). -/
def endTransaction (j : Judgement) (jabber : Option JabberCause) (s : State) : State :=
  match s.ulc.transaction with
  | some t => settlePoll (transactionOutcome t j jabber (releaseLine s))
  | none => releaseLine s

/-! ## Line events (R159 to R161) -/

/-- CALL_END: the part has sent the call and drives the line to rest (R155); a broadcast goes straight to GUARD, every other call to WAIT with the response timer started (R159). -/
def callEnd (s : State) : State :=
  match s.ulc.line, s.ulc.transaction with
  | .call, some (.pass 0 _) => endPass okEmpty (releaseLine s)
  | .call, some _ =>
    s.mapUlc fun u =>
      { u with line := .wait, sending := [], responseTimer := some (4 * (s.cfg.responseTimeoutCode + 1)) }
  | _, _ => s

/-- RESPONSE_TIMEOUT: no answer (R159). -/
def responseTimeout (s : State) : State := if s.ulc.line = .wait then endTransaction .noAnswer none s else s

/-- ANSWER_FIRST_CHARACTER: the timer stops and the line goes to ANSWER (R159). -/
def answerFirstCharacter (s : State) : State :=
  if s.ulc.line = .wait then s.mapUlc fun u => { u with line := .answer, responseTimer := none } else s

/-- ANSWER_COMPLETE: the answer has ended, and is judged (R159, R160). -/
def answerComplete (chars : List LineChar) (s : State) : State :=
  match s.ulc.line, s.ulc.transaction with
  | .answer, some t => endTransaction (t.judge chars) none s
  | _, _ => s

/-- ANSWER_GAP_TIMEOUT: a gap inside the answer makes it bad (R159, R160). -/
def answerGapTimeout (s : State) : State := if s.ulc.line = .answer then endTransaction .bad none s else s

/-- JABBER_IN_ANSWER: a bad answer, and the unit named is marked QUIET (R161). -/
def jabberInAnswer (cause : JabberCause) (s : State) : State :=
  if s.ulc.line = .answer then endTransaction .bad (some cause) s else s

/-- LINK_JABBER: activity outside a transaction has run for 300 character times; posted once for the run (R161). -/
def linkJabber (s : State) : State :=
  if (s.ulc.line = .guarded ∨ s.ulc.line = .idle) ∧ s.ulc.jabberPosted = false then
    post .linkJabber 0 [] (s.mapUlc fun u => { u with line := .guarded, jabberPosted := true })
  else s

/-- CHARACTER_OUTSIDE_TRANSACTION: discarded; it holds the line in GUARD or takes it there (R160). -/
def characterOutsideTransaction (s : State) : State :=
  if s.ulc.line = .idle then s.mapUlc fun u => { u with line := .guarded } else s

/-- LINE_IDLE: the line has rested 2 character times; a written divider takes effect (R156, R159). -/
def lineIdle (s : State) : State :=
  if s.ulc.line = .guarded then
    s.mapUlc fun u => { u with line := .idle, jabberPosted := false, divN := s.cfg.linkDivN, divK := s.cfg.linkDivK }
  else s

/-! ## The arbiter (R173) -/

/-- The QUIET records at the heads of a queue, and the queue behind them. -/
def quietHeads (s : State) : List CommandRecord → List CommandRecord × List CommandRecord
  | [] => ([], [])
  | rec :: rest =>
    if s.isQuiet rec.target then
      let (gone, kept) := quietHeads s rest
      (rec :: gone, kept)
    else ([], rec :: rest)

/-- Records whose target is QUIET are completed as failed when they reach the head of their queue (R164, R173). Before one grant those
of Q0 are failed first, then those of Q1, each queue from its head (DEDUCED, log entry 16: R173 gives no order). -/
def purgeHeads (s : State) : State :=
  let (gone0, q0) := quietHeads s s.ulc.q0
  let (gone1, q1) := quietHeads s s.ulc.q1
  (s.mapUlc fun u => { u with q0 := q0, q1 := q1 }).forEach (gone0 ++ gone1) failQuiet

/-- The range an event round begins with (R167). -/
def fullRange : AddrRange := ⟨0x10, 0x4F⟩

/-- The transaction of the round in progress, or the first of a new round (R167). The EVENT_READ that a good PRESENT answer called for
is made also when its unit has since become QUIET (log entry 41). -/
def Ulc.roundTransaction (u : Ulc) : Transaction :=
  match u.toRead, u.current with
  | some x, _ => .eventRead x true
  | none, some r => .eventCall r true
  | none, none => .eventCall fullRange true

/-- The due poll, round or discovery transaction (R166, R173). -/
def State.dueTransaction (s : State) : Option Transaction :=
  match s.ulc.discovery with
  | some k => (allUnits[k]?).map .discovery
  | none =>
    if s.ulc.cycleRunning && s.cfg.arbiterStrategy != .pollHold then
      match s.cfg.pollTable[s.ulc.cursor]? with
      | some (.unit x) => some (.poll x true)
      | some .eventRound => some s.ulc.roundTransaction
      | none => none
    else none

/-- The sources of work (R173). -/
inductive Source where
  | q0 | schedule | q1 | pass
deriving DecidableEq, Repr

/-- A source waits (R173). -/
def State.waits (s : State) : Source → Bool
  | .q0 => !s.ulc.q0.isEmpty
  | .schedule => s.dueTransaction.isSome
  | .q1 => !s.ulc.q1.isEmpty
  | .pass => s.ulc.passWaiting

/-- The order of grant of a strategy; discovery takes the place of the poll transactions under each (R161a, R173). -/
def ArbiterStrategy.order : ArbiterStrategy → List Source
  | .scheduleFirst | .pollHold => [.q0, .schedule, .q1, .pass]
  | .commandsFirst => [.q0, .q1, .pass, .schedule]

/-- The line goes to CALL with a transaction, and the part sends the bits of its call (R155, R159). -/
def beginTransaction (t : Transaction) (s : State) : State :=
  s.mapUlc fun u => { u with line := .call, transaction := some t, sending := t.callBits }

/-- A command is granted: a POWER ON first sent no longer holds its charged inrush (R11, R169). -/
def sendCommand (rec : CommandRecord) (s : State) : State :=
  let s := match rec.kind, rec.target with
    | .powerOn, .slot n => mapSlot n (fun r => { r with chargedInrush := none }) s
    | _, _ => s
  beginTransaction (.command rec) s

/-- A cycle start still pending begins once Q1 or the pass-through has been granted a transaction (R173). -/
def startPendingCycle (s : State) : State :=
  if s.ulc.startPending ∧ s.ulc.cycleRunning = false then settlePoll (s.mapUlc Ulc.startPendingCycle) else s

/-- A grant to a source that waits (R173). A pass-through that waits is sent also when its target has become QUIET since its request was
taken (log entry 41). -/
def grant (src : Source) (s : State) : State :=
  match src with
  | .q0 =>
    match s.ulc.q0 with
    | rec :: rest => sendCommand rec (s.mapUlc fun u => { u with q0 := rest })
    | [] => s
  | .q1 =>
    match s.ulc.q1 with
    | rec :: rest => startPendingCycle (sendCommand rec (s.mapUlc fun u => { u with q1 := rest }))
    | [] => s
  | .pass =>
    match s.ulc.pass with
    | some p =>
      startPendingCycle (beginTransaction (.pass p.address p.payload)
        (s.mapUlc fun u => { u with pass := some { p with sent := true, limit := none } }))
    | none => s
  | .schedule =>
    match s.dueTransaction with
    | some t =>
      let s := match t with
        | .eventCall r _ => s.mapUlc fun u => { u with current := some r }
        | _ => s
      beginTransaction t s
    | none => s

/-- Before a grant: QUIET heads are failed, QUIET units passed over, and a pending cycle that nothing holds back begins. -/
def prepareGrant (s : State) : State :=
  let s := purgeHeads s
  let s := match s.ulc.discovery with
    | some k => discoverFrom k s
    | none => s
  let s := settlePoll s
  if s.ulc.q1.isEmpty && !s.ulc.passWaiting then startPendingCycle s else s

/-- LINE_GRANT: with the line IDLE, the first waiting source in strategy order is granted (R173). -/
def lineGrant (s : State) : State :=
  if s.ulc.line = .idle then
    let s := prepareGrant s
    match s.cfg.arbiterStrategy.order.find? s.waits with
    | some src => grant src s
    | none => s
  else s

/-! ## LINK_RESET (R177) -/

/-- The transaction in progress is cut (R177): a command returns to its queue, any other is abandoned; a discovery transaction is
made again because its place is kept. -/
def cutTransaction (s : State) : State :=
  match s.ulc.transaction with
  | some (.command rec) => returnRecord rec (releaseLine s)
  | some _ => releaseLine s
  | none => s

/-- Every QUIET unit returns to its prior presence (R177), in ascending address (log entry 37: R177 gives no order). -/
def clearQuiet (s : State) : State := s.forEach allUnits fun x s => if s.isQuiet x then unquiet x s else s

/-- The Unit Link reset (R177). -/
def linkReset (s : State) : State :=
  let s := (cutTransaction s).mapUlc fun u => { u.abandonRound with cursor := 0 }
  settlePoll (clearQuiet s)

end Sys2Proof.Machine
end

