-- ==== Sys2Proof/Machine/Flags.lean ====
section
/-! DEFINITION. Machine/Flags.lean: the summary flags of GET_STATUS (R187, R203) and the flag and presence bytes of the records
(R200 to R205). -/
namespace Sys2Proof.Machine

/-! ## The summary flags (R187) -/

/-- Rectifier fault: any rectifier FAULTED or LOCKED_OUT (R47). -/
def State.rectifierFault (s : State) : Bool :=
  (List.finRange 6).any fun k => (s.rect k).state == .faulted || (s.rect k).state == .lockedOut

/-- Battery fault: any battery module FAULTED (R75). -/
def State.batteryFaultFlag (s : State) : Bool := (List.finRange 4).any fun i => (s.batt i).state == .faulted

/-- Any zone record with wet yes (R21). -/
def State.zoneWetFlag (s : State) : Bool := (List.finRange 8).any fun z => (s.zone z).wet

/-- Any zone record with isolated yes (R21). -/
def State.zoneIsolatedFlag (s : State) : Bool := (List.finRange 8).any fun z => (s.zone z).isolated

/-- Unit trouble: any Unit Table record QUIET or MISSING (R162). -/
def State.unitTrouble (s : State) : Bool := allUnits.any fun x => s.presence x == .quiet || s.presence x == .missing

/-- The first byte of the status summary (R203). -/
def State.summaryFlags (s : State) : Nat :=
  flagBits [s.rectifierFault, s.batteryFaultFlag, s.zoneWetFlag, s.zoneIsolatedFlag, s.unitTrouble, s.ulc.linkOverrun,
    s.mgp.portOverrun, s.nq.lost]

/-- The second byte of the status summary: settings dirty, was silent, level (R203). -/
def State.levelFlags (s : State) : Nat := flagBits [s.lvs.dirty, s.mgp.wasSilent, s.lvs.level == .supervise]

/-- The saturated set as two bytes (R203). -/
def State.saturatedFlags (s : State) : Nat := flagBits s.sfe.latest.saturated.flags

/-! ## Flag bytes of the records (R202, R205) -/

/-- The READ_SLOT presence byte (R202). -/
def Slot.presenceFlags (r : Slot) : Nat := flagBits [r.chargedInrush.isSome, r.draw.isSome]

/-- The flags of a zone in READ_ZONES (R205). -/
def Zone.flags (z : Zone) : Nat := flagBits [z.wet, z.isolated, z.line, z.isolationDelay.isSome]

/-- The READ_RECTIFIER presence byte (R205). -/
def Rectifier.presenceFlags (r : Rectifier) : Nat := flagBits [r.retryTimer.isSome, r.lastFault.isSome]

/-- The flags of a battery record (R205). -/
def Battery.flags (b : Battery) : Nat := flagBits [b.full, b.cutoff, b.reportedFault, b.tempFault]

/-- The READ_ESTIMATE presence byte (R205). -/
def Brc.presenceFlags (b : Brc) : Nat :=
  flagBits [b.shedSettle.isSome, b.stable.isSome, b.lastShed.isSome, b.lastOutage.isSome, b.estimate.isSome]

/-- The estimate record's presence byte (R203). -/
def Estimate.presenceFlags (e : Estimate) : Nat := flagBits [e.elapsed.isSome, e.pTarget.isSome, e.shedAmount.isSome]

/-- The sequencer block's presence byte (R205). -/
def Seq.presenceFlags (q : Seq) : Nat :=
  flagBits [q.awaitTimer.isSome, q.settleTimer.isSome, q.restore.isSome,
    match q.restore with
    | some r => r.timer.isSome
    | none => false]

end Sys2Proof.Machine
end

