-- ==== Sys2Proof/Machine/Records.lean ====
section
/-! DEFINITION. Machine/Records.lean: the reply payloads, field by field (R202, R203, R205). -/
namespace Sys2Proof.Machine

/-- Seven characters, RPS-648 (R186). -/
def partIdentifier : List Byte := [0x52, 0x50, 0x53, 0x2D, 0x36, 0x34, 0x38]

/-- The IDENTIFY reply (R186, R205). -/
def State.identity (s : State) : List Byte :=
  partIdentifier ++ [Config.designRevision, Config.protocolVersion] ++ u8 240 ++ u8 6 ++ u8 4 ++ u8 48 ++ u8 8 ++ u8 8 ++
    u8 s.lvs.level.code ++ bytesOf 4 s.partTime

/-- One phase of the status summary (R203). -/
def PhaseRecord.bytes (p : PhaseRecord) : List Byte :=
  u8 p.state.ctorIdx ++ u8 p.bad ++ u8 p.stable ++ u16 (p.newest.getD 0) ++ u16 (p.previous.getD 0)

/-- The status summary (R187, R203). -/
def State.status (s : State) : List Byte :=
  let f := s.sfe.latest
  u8 s.summaryFlags ++ u8 s.levelFlags ++ u8 s.brc.state.code ++ u8 s.seq.state.ctorIdx ++ u8 s.nq.notices.length ++
    u16 s.mgp.crcDiscards ++ bytesOf 4 s.partTime ++ u16 f.windowCount.toNat ++ u16 f.pAvg ++ u16 f.vbusMean ++
    u16 f.iloadMean ++ u32 f.discharge ++ u16 s.saturatedFlags ++ u8 s.acm.shelf.ctorIdx ++
    (List.finRange 3).flatMap fun p => (s.phase p).bytes

/-- One position of the estimate record (R203). -/
def positionBytes (m : Option ModuleEstimate) : List Byte :=
  match m with
  | some m =>
    u8 1 ++ u16 m.vMean ++ s16 m.iMean ++ u16 m.resistance ++ u16 m.q ++ u16 m.qfloor ++ s32 m.voc ++ u16 m.current ++
      u32 m.vs ++ u16 m.usable ++ u32 m.energy ++ flagByte m.sagLimited
  | none => List.replicate 28 0

/-- The estimate record (R203); a record that is absent reads 0 throughout. -/
def estimateBytes (e : Option Estimate) : List Byte :=
  match e with
  | some e =>
    u8 e.kind.ctorIdx ++ u16 e.windowCount.toNat ++ u16 e.load ++ u16 e.pAvail ++ u16 e.pBatt ++ u8 e.n ++
      ((List.finRange 4).flatMap fun i => positionBytes e.positions[i]) ++ u32 e.eTotal ++ u32 e.eEff ++ u16 e.tRide ++
      u16 (e.elapsed.getD (0, 0)).1 ++ u16 (e.elapsed.getD (0, 0)).2 ++ u32 (e.pTarget.getD 0) ++
      u16 (e.shedAmount.getD 0) ++ flagByte e.shedRequested ++ u8 e.presenceFlags
  | none => List.replicate 144 0

/-- The last shed item of READ_ESTIMATE (R205). -/
def lastShedBytes (l : Option LastShed) : List Byte :=
  match l with
  | some l => u8 l.reason.ctorIdx ++ u16 l.asked ++ u32 l.sum ++ u16 l.shortfall
  | none => [0xFF] ++ u16 0 ++ u32 0 ++ u16 0

/-- The READ_ESTIMATE reply (R110, R205). -/
def State.estimateReply (s : State) : List Byte :=
  let b := s.brc
  u8 b.state.code ++ u16 s.elapsedS ++ u8 b.presenceFlags ++ u16 (b.shedSettle.getD 0) ++ u16 (b.stable.getD 0) ++
    flagByte b.shortfallReported ++ flagByte b.acSeen ++ lastShedBytes b.lastShed ++ u16 (b.lastOutage.getD 0) ++
    estimateBytes b.estimate

/-- The READ_SETTING reply (R194, R205). -/
def State.settingReply (s : State) (k : SettingKey) : List Byte :=
  let r := k.range
  u16 (s.cfg.get k) ++ u16 r.lo ++ u16 r.hi ++ u16 (Settings.default.get k) ++
    u16 (match s.lvs.image with
      | some image => image.get k
      | none => 0) ++
    u8 (flagBits [r.list, r.structural, s.lvs.image.isSome])

/-- The slot record (R3, R202). -/
def State.slotReply (s : State) (n : Fin 48) : List Byte :=
  let c := s.slotCfg n
  let r := s.slot n
  u8 n ++ u16 c.allocation ++ u16 c.inrush ++ u8 c.zone ++ u8 c.cls ++ u8 c.rank ++ u8 r.state.code ++
    orFF (r.shedReason.map (·.ctorIdx)) ++ flagByte r.unconfirmed ++ u16 (r.chargedInrush.getD 0) ++ u16 (r.draw.getD 0) ++
    orFF (r.power.map (·.ctorIdx)) ++ u8 r.overdraw ++ u8 r.presenceFlags

/-- The slot settings as a WRITE_SLOT reply carries them (R205). -/
def State.slotSettingsReply (s : State) (n : Fin 48) : List Byte :=
  let c := s.slotCfg n
  u16 c.allocation ++ u16 c.inrush ++ u8 c.zone ++ u8 c.cls ++ u8 c.rank

/-- The READ_ZONES reply (R21, R205). -/
def State.zonesReply (s : State) : List Byte :=
  ((List.finRange 8).flatMap fun z => u8 (s.zone z).flags ++ u16 ((s.zone z).isolationDelay.getD 0)) ++ u32 s.ldm.pComm ++
    u16 s.ldm.rampLevel ++ u8 s.ldm.restoreList.length ++ s.ldm.restoreList.flatMap fun n => u8 n

/-! ## Plans (R118, R202, R205) -/

/-- The places from `i` to before `j` of a field that are not used, whose bytes the spec does not state (log entry 42). -/
def unusedBytes (i j : Nat) : List Byte := (List.range (j - i)).map fun k => Config.unusedByte (i + k)

/-- A plan step record (R202); the slot numbers after the slot count are not used. -/
def PlanStep.bytes (p : PlanStep) : List Byte :=
  u8 p.slots.length ++ (p.slots.flatMap fun n => u8 n) ++ unusedBytes p.slots.length 8 ++ u16 p.settleMs ++
    u8 p.await.ctorIdx ++ u32 p.readyTimeoutMs ++ u8 p.onTimeout.ctorIdx

/-- One entry of a READ_PLAN reply: the written mark and the record (R205). -/
def planEntryBytes (p : Option PlanStep) : List Byte :=
  match p with
  | some p => u8 1 ++ p.bytes
  | none => List.replicate 18 0

/-- The admitted set as eight entries, of which those of the set are used (R205). -/
def admittedBytes (l : List (Fin 48 × Bool)) : List Byte :=
  (l.flatMap fun e => u8 e.1 ++ flagByte e.2) ++ unusedBytes (2 * l.length) 16

/-- The sequencer block (R119, R205). -/
def Seq.bytes (q : Seq) : List Byte :=
  u8 q.state.ctorIdx ++ u8 q.stepIndex ++ u8 q.cursor ++ flagByte q.stepBegun ++ u8 q.admitted.length ++
    admittedBytes q.admitted ++ orFF (q.holdReason.map (·.ctorIdx)) ++ u8 q.presenceFlags ++ u32 (q.awaitTimer.getD 0) ++
    u16 (q.settleTimer.getD 0) ++ orFF (q.pausedFrom.map (·.1.ctorIdx)) ++
    orFF (q.pausedFrom.bind fun p => p.2.map (·.ctorIdx)) ++ flagByte q.bridgeHold ++ flagByte q.hostSilent ++
    orFF (q.restore.map (·.phase.ctorIdx)) ++ orFF (q.restore.bind fun r => r.hold.map (·.code)) ++
    orFF (q.restore.bind fun r => r.slot.map (·.val)) ++ u16 ((q.restore.bind (·.timer)).getD 0) ++
    orFF (q.restore.map (·.count)) ++ orFF (q.restore.bind fun r => r.kept.map (·.ctorIdx))

/-- A buffer as READ_PLAN shows it: its condition, plan id and records (R118). -/
def PlanBuffer.view : PlanBuffer → Nat × Nat × List (Option PlanStep)
  | .empty => (0, 0, [])
  | .filling id steps => (1, id.toNat, steps)
  | .ready p => (2, p.id.toNat, p.steps.map some)

/-- The READ_PLAN reply for a buffer's view (R205). -/
def planReply (view : Nat × Nat × List (Option PlanStep)) (startPending : Bool) (first : Nat) (q : Seq) : List Byte :=
  let entries := (view.2.2.drop first).take 10
  u8 view.1 ++ u16 view.2.1 ++ u8 view.2.2.length ++ flagByte startPending ++ q.bytes ++ u8 entries.length ++
    entries.flatMap planEntryBytes

/-! ## Rectifiers, batteries, leak channels, units (R205) -/

/-- The READ_RECTIFIER reply (R32, R205). -/
def State.rectifierReply (s : State) (k : Fin 6) : List Byte :=
  let r := s.rect k
  u8 k ++ u16 s.cfg.rectifierRating[k] ++ u8 (s.cfg.rectifierFeed[k].val + 1) ++ u8 r.state.code ++ u8 r.derate ++
    flagByte r.adminDisabled ++ orFF (r.retryPhase.map (·.ctorIdx)) ++ u16 (r.retryTimer.getD 0) ++ u8 r.retryCount ++
    u16 r.runTime ++ [r.lastFault.getD 0] ++ u16 r.contribution ++ u16 s.rsv.pAvail ++ u8 s.cfg.redundancy.ctorIdx ++
    u8 (s.presence (.rectifier k)).code ++ u8 r.presenceFlags

/-- The record part of the battery block (R205). -/
def State.batteryRecord (s : State) (i : Fin 4) : List Byte :=
  let b := s.batt i
  let f := s.sfe.latest
  let cap := s.cfg.batteryCapacity[i]
  u8 i ++ u16 cap ++ flagByte b.seeded ++ u16 b.q ++ s32 b.r ++ u16 b.resistance ++ flagByte b.measuredAt.isSome ++
    bytesOf 4 (b.measuredAt.getD 0) ++ u8 b.state.code ++ orFF b.percent ++ u8 b.flags ++ u8 b.outCount ++ u8 b.inCount ++
    u16 (s.qfloor i) ++ u8 (b.q * 100 / cap) ++ u16 f.vMean[i] ++ s16 f.iMean[i] ++ s8 f.tMean[i] ++
    u8 (s.presence (.battery i)).code

/-- A pending result's code and R_new (R205). -/
def pendingBytes (p : Option PendingResult) : List Byte :=
  match p with
  | some (.stored r) => u8 0 ++ u16 r
  | some .inconclusive => u8 1 ++ u16 0
  | none => [0xFF] ++ u16 0

/-- The test context part of the battery block (R81, R205). -/
def TestContext.bytes (t : TestContext) : List Byte :=
  let base := t.base.getD (0, 0)
  let loaded := t.loaded.getD (0, 0)
  orFF (t.module.map (·.val)) ++ u8 t.phase.ctorIdx ++ u8 t.count ++ u16 base.1 ++ s16 base.2 ++ u16 loaded.1 ++
    s16 loaded.2 ++ pendingBytes t.pending ++ flagByte t.loadAcked ++ flagByte t.releaseOwed

/-- The latest test part of the battery block (R80, R205). -/
def latestTestBytes (t : Option TestRecord) : List Byte :=
  match t with
  | some t =>
    u8 t.outcome.ctorIdx ++ orFF (t.cause.map (·.ctorIdx)) ++ u16 (t.rNew.getD 0) ++ s16 (t.delta.getD (0, 0)).1 ++
      s16 (t.delta.getD (0, 0)).2
  | none => [0xFF, 0xFF] ++ u16 0 ++ u16 0 ++ u16 0

/-- A pending result carries an R_new. -/
def PendingResult.stores : PendingResult → Bool
  | .stored _ => true
  | .inconclusive => false

/-- The battery block's presence byte (R205). -/
def State.batteryPresence (s : State) (i : Fin 4) : Nat :=
  let b := s.batt i
  let t := s.bmn.test
  flagBits [b.measuredAt.isSome, t.base.isSome, t.loaded.isSome, t.pending.any PendingResult.stores,
    b.latest.any (·.rNew.isSome), b.latest.any (·.delta.isSome)]

/-- The READ_BATTERY reply (R80, R205). -/
def State.batteryReply (s : State) (i : Fin 4) : List Byte :=
  s.batteryRecord i ++ s.bmn.test.bytes ++ latestTestBytes (s.batt i).latest ++ u8 (s.batteryPresence i)

/-- The settings part of the leak block (R205). -/
def State.leakSettingsReply (s : State) (c : Fin 8) : List Byte :=
  let l := s.leakCfg c
  u8 c ++ flagByte l.enabled ++ u8 l.kind.ctorIdx ++ [l.zoneSet] ++ u8 l.policy.ctorIdx ++ u8 l.openPolicy.ctorIdx ++
    u16 l.wetThreshold ++ u16 l.dryThreshold ++ u8 l.wetCount ++ u16 l.dryCount ++ u8 l.openCount ++
    u16 l.isolateDelayMs ++ u8 l.pulseWidth.ctorIdx ++ u16 l.rlead ++ u16 l.rpm ++ u16 l.ropeLengthCm

/-- The state part of the leak block (R205). -/
def LeakChannel.bytes (r : LeakChannel) : List Byte :=
  u8 r.state.ctorIdx ++ u8 (match r.runClass with
      | some k => k.ctorIdx
      | none => 3) ++
    u16 r.runCount ++ flagByte r.priorWet ++ u16 (r.location.getD 0) ++ u8 r.locationSamples ++ u16 r.lastConductance ++
    u16 (r.lastLoop.getD 0) ++ u8 (flagBits [r.location.isSome, r.lastLoop.isNone])

/-- The zone part of the leak block (R140, R205). -/
def State.leakZones (s : State) (c : Fin 8) : List Byte :=
  (List.finRange 8).flatMap fun z =>
    u8 (flagBits [(s.leakCfg c).covers z, s.lkm.wetView[z], s.lkm.delay[z].isSome]) ++ u16 (s.lkm.delay[z].getD 0)

/-- The READ_LEAK reply (R140, R205). -/
def State.leakReply (s : State) (c : Fin 8) : List Byte := s.leakSettingsReply c ++ (s.channel c).bytes ++ s.leakZones c

/-- The READ_POLL_TABLE reply (R165, R205). -/
def State.pollReply (s : State) : List Byte :=
  u16 s.ulc.overrunCount ++ u8 s.cfg.pollTable.length ++ s.cfg.pollTable.flatMap fun e => u8 e.code

/-- The last event of a READ_UNIT reply (R205). -/
def eventBytes (e : Option UnitEvent) : List Byte :=
  match e with
  | some e => u8 1 ++ [e.code] ++ e.data ++ bytesOf 4 e.time
  | none => List.replicate 10 0

/-- The READ_UNIT reply (R162, R205). -/
def State.unitReply (s : State) (x : UnitId) : List Byte :=
  let r := s.ulc.units.get x
  u8 x.address ++ u8 x.kindCode ++ u8 r.presence.code ++ orFF (r.prior.map (·.code)) ++ u8 r.misses ++
    eventBytes r.lastEvent

end Sys2Proof.Machine
end

