-- ==== Sys2Proof/Machine/Requests.lean ====
section
/-! DEFINITION. Machine/Requests.lean: what each host request does (sections 9.3 and 9.4 and each request's own rule). A handler takes
the payload and the state, and gives the response with the state after; `none` is the one deferred reply (R185). Its payload has a
length its kind accepts (R182); the arm for any other payload answers BAD_LENGTH. -/
namespace Sys2Proof.Machine

/-- A request's handler. -/
abbrev Handler := List Byte → State → Option Response × State

/-- A response with the state as it was. -/
def answer (r : Response) (s : State) : Option Response × State := (some r, s)

/-- The response to a payload of a length its kind does not accept (R182). -/
def badLength (s : State) : Option Response × State := answer (refuse .badLength) s

/-- The response to a field outside its list (R182). -/
def outOfRange (s : State) : Option Response × State := answer (refuse .outOfRange) s

/-- A status alone, with the state it comes with. -/
def statusAnswer (r : Status × State) : Option Response × State :=
  (some (if r.1 = .ok then okEmpty else refuse r.1), r.2)

/-- A handler of a request whose payload is one byte naming one of `n` things. -/
def naming (n : Nat) (f : Fin n → State → Option Response × State) : Handler := fun payload s =>
  match payload with
  | [b] =>
    match finOf n b with
    | some k => f k s
    | none => outOfRange s
  | _ => badLength s

/-- A handler of a request that carries no payload. -/
def bare (f : State → Option Response × State) : Handler := fun payload s =>
  match payload with
  | [] => f s
  | _ => badLength s

/-! ## Identity, status, levels and settings -/

/-- IDENTIFY (R186). -/
def doIdentify : Handler := bare fun s => answer (okWith s.identity) s

/-- GET_STATUS (R187): the overrun flags are cleared by the reply that carries them. -/
def doGetStatus : Handler := bare fun s =>
  (some (okWith s.status),
    (s.mapUlc fun u => { u with linkOverrun := false }).mapMgp fun m => { m with portOverrun := false })

/-- READ_ESTIMATE (R110). -/
def doReadEstimate : Handler := bare fun s => answer (okWith s.estimateReply) s

/-- SET_LEVEL (R193). -/
def doSetLevel : Handler := fun payload s =>
  match payload with
  | [b] =>
    match levelOf b with
    | none => outOfRange s
    | some l =>
      if s.lvs.startingUp then answer (refuse .state) s
      else if s.lvs.level = l then answer okEmpty s
      else (some okEmpty, enterLevel l s)
  | _ => badLength s

/-- READ_SETTING (R194). -/
def doReadSetting : Handler := fun payload s =>
  match payload with
  | [number, index] =>
    match SettingKey.find number.toNat index.toNat with
    | some k => answer (okWith (s.settingReply k)) s
    | none => outOfRange s
  | _ => badLength s

/-- The value bytes of a WRITE_SETTING for a setting, when they are of its width (R194, R202). -/
def settingValue (k : SettingKey) (bytes : List Byte) : Option Nat :=
  match k.width, bytes with
  | 1, [b] => some b.toNat
  | 2, [hi, lo] => some (nat16 hi lo)
  | _, _ => none

/-- A value as a setting stores it: a listed value, or a number clamped to the range; none outside a list (R194). -/
def SettingKey.stored (k : SettingKey) (v : Nat) : Option Nat :=
  if k.range.list then (if k.inList v then some v else none) else some (clamp k.range.lo k.range.hi v)

/-- WRITE_SETTING's checks 3 to 5 and its effect, for a setting and a value of its width (R194). -/
def writeSetting (k : SettingKey) (v : Nat) (s : State) : Option Response × State :=
  if k.range.structural ∧ s.lvs.level = .supervise then answer (refuse .wrongLevel) s
  else if s.lvs.commit.isSome then answer (refuse .busy) s
  else
    match k.stored v with
    | none => outOfRange s
    | some stored => (some ⟨.ok, stored != v, u16 stored⟩, markDirty (applySetting k stored s))

/-- WRITE_SETTING (R194). -/
def doWriteSetting : Handler := fun payload s =>
  match payload with
  | number :: index :: value =>
    if value.length = 1 ∨ value.length = 2 then
      match SettingKey.find number.toNat index.toNat with
      | none => outOfRange s
      | some k =>
        match settingValue k value with
        | none => badLength s
        | some v => writeSetting k v s
    else badLength s
  | _ => badLength s

/-- COMMIT_SETTINGS (R195). -/
def doCommitSettings : Handler := bare fun s =>
  if s.lvs.commit.isSome then answer (refuse .busy) s else (some okEmpty, beginCommit s)

/-- REVERT_SETTINGS (R196). -/
def doRevertSettings : Handler := bare fun s =>
  if s.lvs.commit.isSome then answer (refuse .busy) s
  else
    match s.lvs.image with
    | none => answer (refuse .state) s
    | some image => (some okEmpty, reload true image s)

/-- RESTART (R199): it takes effect when its reply has been sent. -/
def doRestart : Handler := bare fun s =>
  if s.lvs.startingUp then answer (refuse .state) s
  else if s.brc.state ≠ .grid then answer (refuse .state) s
  else if s.lvs.commit.isSome then answer (refuse .busy) s
  else (some okEmpty, s.mapMgp fun m => { m with restartDue := true })

/-! ## Slots and zones -/

/-- READ_SLOT (R3). -/
def doReadSlot : Handler := naming 48 fun n s => answer (okWith (s.slotReply n)) s

/-- The fields a WRITE_SLOT's mask selects, clamped to their ranges (R3, R4, R202). -/
def slotWrite (mask allocation inrush : Nat) (zone : Fin 8) (cls rank : Nat) : SlotWrite where
  allocation := if mask.testBit 0 then some (clamp 0 4000 allocation) else none
  inrush := if mask.testBit 1 then some (clamp 0 8000 inrush) else none
  zone := if mask.testBit 2 then some zone else none
  cls := if mask.testBit 3 then some (clamp 0 3 cls) else none
  rank := if mask.testBit 4 then some (clamp 0 255 rank) else none

/-- A WRITE_SLOT stores a value clamped (R4). -/
def slotClamped (mask allocation inrush cls : Nat) : Bool :=
  (mask.testBit 0 && 4000 < allocation) || (mask.testBit 1 && 8000 < inrush) || (mask.testBit 3 && 3 < cls)

/-- WRITE_SLOT (R4, R5, R202). -/
def doWriteSlot : Handler := fun payload s =>
  match payload with
  | [slot, mask, a1, a0, i1, i0, zone, cls, rank] =>
    match finOf 48 slot with
    | none => outOfRange s
    | some n =>
      let m := mask.toNat
      if m = 0 ∨ 31 < m then outOfRange s
      else if m.testBit 2 ∧ s.lvs.level = .supervise then answer (refuse .wrongLevel) s
      else if m.testBit 2 ∧ 7 < zone.toNat then outOfRange s
      else if s.lvs.commit.isSome then answer (refuse .busy) s
      else
        let z : Fin 8 := ⟨zone.toNat % 8, Nat.mod_lt _ (by decide)⟩
        let s := markDirty (applySlot true n (slotWrite m (nat16 a1 a0) (nat16 i1 i0) z cls.toNat rank.toNat) s)
        (some ⟨.ok, slotClamped m (nat16 a1 a0) (nat16 i1 i0) cls.toNat, s.slotSettingsReply n⟩, s)
  | _ => badLength s

/-- SLOT_POWER OFF on a slot (R16): a powered slot is shed with reason HOST; a SHED slot's reason becomes HOST; a POWER OFF is
placed in Q0. -/
def hostPowerOff (n : Fin 48) (s : State) : Option Response × State :=
  match (s.slot n).state with
  | .energizing | .on =>
    (some okEmpty, placePower n .powerOff (mapSlot n (fun r => { r with state := .shed, shedReason := some .host }) s))
  | .shed =>
    (some okEmpty, placePower n .powerOff
      (leaveRestoreList n (mapSlot n (fun r => { r with shedReason := some .host }) s)))
  | .off | .vacant | .isolated | .faulted => answer (refuse .state) s

/-- SLOT_POWER ON on a slot (R13, R15): an admission with origin HOST. -/
def hostPowerOn (n : Fin 48) (s : State) : Option Response × State :=
  match admitSlot .host n s with
  | .ok s => (some okEmpty, s)
  | .error r => answer (refuseFor r) s

/-- SLOT_POWER (R13, R16): its second byte says ON or OFF. -/
def doSlotPower : Handler := fun payload s =>
  match payload with
  | [slot, on] =>
    match finOf 48 slot, boolOf on with
    | some n, some true => hostPowerOn n s
    | some n, some false => hostPowerOff n s
    | _, _ => outOfRange s
  | _ => badLength s

/-- SLOT_CLEAR (R9). -/
def doSlotClear : Handler := naming 48 fun n s =>
  match (s.slot n).state with
  | .faulted => (some okEmpty, mapSlot n (fun r => { r with state := s.offState n, overdraw := 0 }) s)
  | .shed => (some okEmpty, leaveRestoreList n (mapSlot n (fun r => { r with state := s.offState n, shedReason := none }) s))
  | _ => answer (refuse .state) s

/-- READ_ZONES (R21). -/
def doReadZones : Handler := bare fun s => answer (okWith s.zonesReply) s

/-- ZONE_RELEASE (R25). -/
def doZoneRelease : Handler := naming 8 fun z s =>
  if (s.zone z).isolated = false then answer (refuse .state) s
  else if (s.zone z).wet then answer (refuse .stillWet) s
  else (some okEmpty, releaseZone z s)

/-! ## Plans -/

/-- PLAN_BEGIN (R116). -/
def doPlanBegin : Handler := fun payload s =>
  match payload with
  | [target, id1, id0, count] =>
    if 1 < target.toNat ∨ count = 0 ∨ 64 < count.toNat then outOfRange s
    else
      let buffer := PlanBuffer.filling (id1 ++ id0) (List.replicate count.toNat none)
      if target = 0 then
        (some okEmpty, s.mapSeq fun q => { q with staged := buffer, startPending := false, startupStaged := false })
      else if s.lvs.level = .supervise then answer (refuse .wrongLevel) s
      else if s.lvs.commit.isSome then answer (refuse .busy) s
      else (some okEmpty, markDirty (s.mapLvs fun l => { l with settings := { l.settings with storedPlan := buffer } }))
  | _ => badLength s

/-- Steps written from an index on (R117). -/
def writeSteps : List (Option PlanStep) → Nat → List PlanStep → List (Option PlanStep)
  | written, _, [] => written
  | written, k, p :: rest => writeSteps (written.set k (some p)) (k + 1) rest

/-- A FILLING buffer is READY when every index is written (R115). -/
def fillBuffer (id : BitVec 16) (steps : List (Option PlanStep)) : PlanBuffer :=
  if steps.all (·.isSome) then .ready ⟨id, steps.filterMap fun p => p⟩ else .filling id steps

/-- How many indices of a list of steps are unwritten (R117). -/
def unwritten (steps : List (Option PlanStep)) : Nat := (steps.filter (·.isNone)).length

/-- PLAN_STEPS on a FILLING buffer, its records read (R117): the buffer after, and the response. -/
def planStepsInto (id : BitVec 16) (steps : List (Option PlanStep)) (first : Nat) (records : List PlanStep) :
    PlanBuffer × Response :=
  let stored := records.map PlanStep.clamped
  let written := writeSteps steps first stored
  (fillBuffer id written, ⟨.ok, stored != records, u8 (unwritten written)⟩)

/-- The records of a PLAN_STEPS that its checks on the buffer and the records accept, or the refusal (R117). -/
def planStepsCheck (buffer : PlanBuffer) (first : Nat) (bytes : List Byte) :
    Except Status (BitVec 16 × List (Option PlanStep) × List PlanStep) :=
  match buffer with
  | .filling id steps =>
    if steps.length < first + bytes.length / 17 then .error .outOfRange
    else
      match stepsOf (bytes.length / 17) bytes with
      | some records => .ok (id, steps, records)
      | none => .error .outOfRange
  | _ => .error .state

/-- PLAN_STEPS (R117). -/
def doPlanSteps : Handler := fun payload s =>
  match payload with
  | target :: first :: bytes =>
    if bytes.length % 17 ≠ 0 ∨ bytes.length = 0 ∨ 238 < bytes.length then badLength s
    else if target = 0 then
      match planStepsCheck s.seq.staged first.toNat bytes with
      | .error e => answer (refuse e) s
      | .ok (id, steps, records) =>
        let (buffer, resp) := planStepsInto id steps first.toNat records
        (some resp, s.mapSeq fun q => { q with staged := buffer })
    else if target = 1 then
      if s.lvs.level = .supervise then answer (refuse .wrongLevel) s
      else
        match planStepsCheck s.cfg.storedPlan first.toNat bytes with
        | .error e => answer (refuse e) s
        | .ok (id, steps, records) =>
          if s.lvs.commit.isSome then answer (refuse .busy) s
          else
            let (buffer, resp) := planStepsInto id steps first.toNat records
            (some resp, markDirty (s.mapLvs fun l => { l with settings := { l.settings with storedPlan := buffer } }))
    else outOfRange s
  | _ => badLength s

/-- PLAN_START (R120). -/
def doPlanStart : Handler := bare fun s => statusAnswer (planStart s)

/-- PLAN_PAUSE (R129). -/
def doPlanPause : Handler := bare fun s => statusAnswer (planPause s)

/-- PLAN_RESUME (R130). -/
def doPlanResume : Handler := bare fun s => statusAnswer (planResume s)

/-- PLAN_CANCEL (R131). -/
def doPlanCancel : Handler := bare fun s => (some okEmpty, planCancel s)

/-- READ_PLAN's view of a buffer: ACTIVE 0, STAGED 1, STORED 2 (R118, R205). -/
def State.planView (s : State) (buffer : Byte) : Option (Nat × Nat × List (Option PlanStep)) :=
  if buffer = 0 then
    some (match s.seq.active with
      | some p => (PlanBuffer.ready p).view
      | none => PlanBuffer.empty.view)
  else if buffer = 1 then some s.seq.staged.view
  else if buffer = 2 then some s.cfg.storedPlan.view
  else none

/-- READ_PLAN (R118). -/
def doReadPlan : Handler := fun payload s =>
  match payload with
  | [buffer, first] =>
    match s.planView buffer with
    | none => outOfRange s
    | some view =>
      if view.1 ≠ 0 ∧ view.2.2.length ≤ first.toNat then outOfRange s
      else answer (okWith (planReply view (buffer == 1 && s.seq.startPending) first.toNat s.seq)) s
  | _ => badLength s

/-! ## Rectifiers and batteries -/

/-- READ_RECTIFIER (R32). -/
def doReadRectifier : Handler := naming 6 fun k s => answer (okWith (s.rectifierReply k)) s

/-- RECTIFIER_ENABLE (R43). -/
def doRectifierEnable : Handler := naming 6 fun k s =>
  let r := s.rect k
  match r.state, r.retryPhase with
  | .faulted, some _ => answer okEmpty s
  | .faulted, none =>
    (some okEmpty, mapRect k (fun r => { r with adminDisabled := false }.delay s.cfg.retryDelayMs) s)
  | .lockedOut, _ => answer (refuse .state) s
  | .absent, _ => (some okEmpty, mapRect k (fun r => { r with adminDisabled := false }) s)
  | _, _ =>
    if s.roomInQ1 then (some okEmpty, placeModuleCall k .enable false (mapRect k (fun r => { r with adminDisabled := false }) s))
    else answer (refuse .busy) s

/-- P_avail with a module's contribution taken as 0 (R44). -/
def State.capacityWithout (s : State) (k : Fin 6) : Nat :=
  capacityOf s.cfg.redundancy ((List.finRange 6).map fun j => if j = k then 0 else (s.rect j).contribution)

/-- An accepted RECTIFIER_DISABLE (R44). -/
def disableRect (k : Fin 6) (s : State) : State :=
  let s' := mapRect k (fun r =>
    if r.state = .faulted then { r.endRetry with adminDisabled := true } else { r with adminDisabled := true }) s
  if (s.rect k).state = .absent then s' else placeModuleCall k .disable false s'

/-- RECTIFIER_DISABLE (R44). -/
def doRectifierDisable : Handler := naming 6 fun k s =>
  if (s.rect k).state.running ∧ s.capacityWithout k < s.ldm.pComm then answer (refuseFor .capacity) s
  else if (s.rect k).state ≠ .absent ∧ s.roomInQ1 = false then answer (refuse .busy) s
  else (some okEmpty, disableRect k s)

/-- A clear that enables the module at once (R45). -/
def clearEnable (k : Fin 6) (s : State) : Option Response × State :=
  if s.roomInQ1 then
    (some okEmpty, placeModuleCall k .enable true (mapRect k (fun r =>
      { r with state := .faulted, retryCount := 0, retryPhase := some .enabling, retryTimer := none }) s))
  else answer (refuse .busy) s

/-- RECTIFIER_CLEAR (R45). -/
def doRectifierClear : Handler := naming 6 fun k s =>
  let r := s.rect k
  match r.state, r.retryPhase with
  | .lockedOut, _ =>
    if r.adminDisabled then
      (some okEmpty, mapRect k (fun r => { r with state := .faulted, retryCount := 0, retryPhase := none }) s)
    else clearEnable k s
  | .faulted, some .delay | .faulted, some .due => clearEnable k s
  | _, _ => (some okEmpty, mapRect k (fun r => { r with retryCount := 0 }) s)

/-- READ_BATTERY (R80). -/
def doReadBattery : Handler := naming 4 fun i s => answer (okWith (s.batteryReply i)) s

/-- START_IMPEDANCE_TEST (R82). -/
def doStartImpedanceTest : Handler := naming 4 fun i s =>
  if s.bmn.test.phase ≠ .idle then answer (refuse .busy) s
  else if s.mayTest i then (some okEmpty, beginTest i s)
  else answer (refuse .state) s

/-! ## Leak channels -/

/-- READ_LEAK (R140). -/
def doReadLeak : Handler := naming 8 fun c s => answer (okWith (s.leakReply c)) s

/-- An accepted WRITE_LEAK, its fields read (R139). -/
def writeLeak (c : Fin 8) (mask : Nat) (f : LeakFields) (s : State) : Option Response × State :=
  match leakWritten mask f (s.leakCfg c) with
  | none => outOfRange s
  | some (new, clamped) =>
    if s.lvs.commit.isSome then answer (refuse .busy) s
    else
      let s := markDirty (applyLeak c new s)
      (some ⟨.ok, clamped, s.leakSettingsReply c⟩, s)

/-- WRITE_LEAK (R139). -/
def doWriteLeak : Handler := fun payload s =>
  match payload with
  | channel :: m1 :: m0 :: bytes =>
    match leakFieldsOf bytes with
    | none => badLength s
    | some f =>
      let mask := nat16 m1 m0
      if mask.testBit 2 ∧ s.lvs.level = .supervise then answer (refuse .wrongLevel) s
      else
        match finOf 8 channel with
        | none => outOfRange s
        | some c => if mask = 0 ∨ mask.testBit 15 then outOfRange s else writeLeak c mask f s
  | _ => badLength s

/-- LEAK_ACK (R147). -/
def doLeakAck : Handler := naming 8 fun c s => statusAnswer (leakAck c s)

/-! ## The Unit Link -/

/-- READ_POLL_TABLE (R165). -/
def doReadPollTable : Handler := bare fun s => answer (okWith s.pollReply) s

/-- WRITE_POLL_TABLE (R165, R205). -/
def doWritePollTable : Handler := fun payload s =>
  if 240 < payload.length then badLength s
  else if s.lvs.level = .supervise then answer (refuse .wrongLevel) s
  else if 64 < payload.length then outOfRange s
  else
    match pollEntriesOf payload with
    | none => outOfRange s
    | some table =>
      if s.lvs.commit.isSome then answer (refuse .busy) s else (some okEmpty, markDirty (applyPollTable table s))

/-- A handler of a request whose payload is the address of a unit in the Unit Table (R162, R164). -/
def addressing (f : UnitId → State → Option Response × State) : Handler := fun payload s =>
  match payload with
  | [b] =>
    match UnitId.ofAddress b.toNat with
    | some x => f x s
    | none => outOfRange s
  | _ => badLength s

/-- READ_UNIT (R162). -/
def doReadUnit : Handler := addressing fun x s => answer (okWith (s.unitReply x)) s

/-- UNIT_UNQUIET (R164). -/
def doUnitUnquiet : Handler := addressing fun x s =>
  if s.isQuiet x then (some okEmpty, unquiet x s) else answer (refuse .state) s

/-- LINK_RESET (R177). -/
def doLinkReset : Handler := bare fun s => (some okEmpty, linkReset s)

/-- PASS_THROUGH (R174): accepted, its reply is deferred (R185). -/
def doPassThrough : Handler := fun payload s =>
  match payload with
  | address :: bytes =>
    if 32 < bytes.length then badLength s
    else
      let accept := (none, s.mapUlc fun u => { u with pass := some ⟨address.toNat, bytes, false, some 1000⟩ })
      if address = 0 then accept
      else
        match UnitId.ofAddress address.toNat with
        | none => outOfRange s
        | some x => if s.isQuiet x then answer (refuseFor .link) s else accept
  | [] => badLength s

/-! ## Notices -/

/-- How many notices a fetch removes: at most `most`, as long as each fits in the room left (R189). -/
def fetchCount : Nat → Nat → List Notice → Nat
  | 0, _, _ => 0
  | _, _, [] => 0
  | most + 1, room, n :: rest =>
    if n.bytes.length ≤ room then fetchCount most (room - n.bytes.length) rest + 1 else 0

/-- An accepted FETCH_NOTICES (R189). -/
def fetchNotices (most : Nat) (s : State) : Option Response × State :=
  let k := fetchCount most 237 s.nq.notices
  let left := s.nq.notices.drop k
  (some (okWith (u8 k ++ u8 left.length ++ flagByte s.nq.lost ++ (s.nq.notices.take k).flatMap Notice.bytes)),
    s.mapNq fun _ => ⟨left, false, !left.isEmpty⟩)

/-- FETCH_NOTICES (R189). -/
def doFetchNotices : Handler := fun payload s =>
  match payload with
  | [most] => if most = 0 ∨ 16 < most.toNat then outOfRange s else fetchNotices most.toNat s
  | _ => badLength s

/-! ## The catalogue (R182, R200) -/

/-- The requests by kind, kind 0x01 first (R200). -/
def catalogue : List Handler :=
  [doIdentify, doGetStatus, doReadEstimate, doSetLevel, doReadSetting, doWriteSetting, doCommitSettings, doRevertSettings,
   doRestart,
   doReadSlot, doWriteSlot, doSlotPower, doSlotClear, doReadZones, doZoneRelease,
   doPlanBegin, doPlanSteps, doPlanStart, doPlanPause, doPlanResume, doPlanCancel, doReadPlan,
   doReadRectifier, doRectifierEnable, doRectifierDisable, doRectifierClear, doReadBattery, doStartImpedanceTest,
   doReadLeak, doWriteLeak, doLeakAck, doReadPollTable, doWritePollTable, doReadUnit, doUnitUnquiet, doLinkReset,
   doPassThrough, doFetchNotices]

/-- The handler of a kind; none for a kind outside the catalogue (R182, R200). -/
def handlerOf (kind : Byte) : Option Handler :=
  match kind.toNat with
  | 0 => none
  | k + 1 => catalogue[k]?

end Sys2Proof.Machine
end

