-- ==== Sys2Proof/Machine/Port.lean ====
section
/-! DEFINITION. Machine/Port.lean: the Management Port (sections 9.2, 9.3 and 9.6): taking a request for handling, the reply's end,
host silence, and the frames that are no requests. -/
namespace Sys2Proof.Machine

/-! ## Host silence (R190) -/

/-- A valid request clears HOST_SILENT, and the clearing is reported to the sequencer (R128, R190). -/
def clearSilence (s : State) : State :=
  let was := s.mgp.hostSilent
  let s := s.mapMgp fun m => { m with wasSilent := was, hostSilent := false }
  if was then sequencerSilenceCleared s else s

/-- HOST_SILENT: the host-silence timer expires (R190). -/
def hostSilent (s : State) : State :=
  if s.mgp.silenceTimer.isSome then
    let s := s.mapMgp fun m => { m with hostSilent := true, silenceTimer := none }
    sequencerSilence (post .hostSilent 0 (u16 s.cfg.hostSilenceS) s)
  else s

/-! ## Requests (R181, R182) -/

/-- What a handler gave becomes a reply, or defers it (R182, R185). The host-silence timer restarts with the value in force once
the request has been carried out (R190). -/
def finishRequest (r : Request) (result : Option Response × State) : State :=
  let s := startSilence result.2
  match result.1 with
  | some resp => buildReply r resp s
  | none => s.mapMgp fun m => { m with pending := .deferred r }

/-- A request of an unknown kind is answered UNKNOWN_KIND and changes nothing else (R182, R190). -/
def takeUnknown (r : Request) (s : State) : State := buildReply r (refuse .unknownKind) s

/-- A request of a known kind is taken for handling (R182). -/
def takeKnown (r : Request) (h : Handler) (s : State) : State := finishRequest r (h r.payload (clearSilence s))

/-- A request is taken for handling (R182). -/
def takeRequest (r : Request) (s : State) : State :=
  match handlerOf r.kind with
  | some h => takeKnown r h s
  | none => takeUnknown r s

/-- The receive assembly returns to HUNTING (R180). -/
def abandonFrame (s : State) : State := s.mapMgp fun m => { m with assembly := [] }

/-- A complete frame arrives, and the assembly is then HUNTING (R180, R181): it enters the pending-request buffer when that is free, and is taken at once when the
reply buffer is free too; a frame that finds the buffer occupied is discarded with the port overrun flag. -/
def receiveRequest (r : Request) (s : State) : State :=
  if 240 < r.payload.length then abandonFrame s
  else
    let s := abandonFrame s
    match s.mgp.pending, s.mgp.reply with
    | .free, none => takeRequest r s
    | .free, some _ => s.mapMgp fun m => { m with pending := .waiting r }
    | _, _ => s.mapMgp fun m => { m with portOverrun := true }

/-- A request waiting in the pending-request buffer is taken once the reply buffer is free (R181). -/
def takeWaiting (s : State) : State :=
  match s.mgp.pending with
  | .waiting r => takeRequest r (s.mapMgp fun m => { m with pending := .free })
  | _ => s

/-- The bit rate follows MgmtBitRate once the reply has been sent; a frame in assembly is abandoned at the change (R178). -/
def switchRate (s : State) : State :=
  if s.mgp.bitRate = s.cfg.mgmtBitRate then s
  else s.mapMgp fun m => { m with bitRate := s.cfg.mgmtBitRate, assembly := [] }

/-- REPLY_SENT: the last byte of a reply has left the line (R178, R181, R199). -/
def replySent (s : State) : State :=
  if s.mgp.reply.isSome then
    let s := s.mapMgp Mgp.endReply
    let s := if s.mgp.restartDue then warmRestart s else s
    takeWaiting (switchRate s)
  else s

/-! ## Frames that are no requests (R180, R181) -/

/-- The end of a frame in the receive assembly acts (R180): a frame whose CRC does not match is counted; a good frame, of whatever
command's characters, is handed to the pending-request buffer, as at the command of its own row; one that a framing error or a
length ends is neither answered nor counted. -/
def frameEnds (e : AssemblyEnd) (s : State) : State :=
  match e with
  | .framingError | .lengthAbandon => s
  | .crcDiscard => s.mapMgp fun m => { m with crcDiscards := min 65535 (m.crcDiscards + 1) }
  | .frame r => receiveRequest r s

/-- The port receives one character (R178, R180): the assembly takes it, and a frame that it ends acts. -/
def hearChar (c : PortChar) (s : State) : State :=
  let (held, ended) := assembleChar s.mgp.assembly c
  let s := s.mapMgp fun m => { m with assembly := held }
  match ended with
  | some e => frameEnds e s
  | none => s

/-- The port receives characters, one after the other (R178, R180). -/
def hearChars (chars : List PortChar) (s : State) : State := s.forEach chars hearChar

/-- REQUEST_GAP_ABANDON: the characters, and then a gap of more than 2 ms (R180). -/
def gapAbandon (chars : List PortChar) (s : State) : State := abandonFrame (hearChars chars s)

/-- REQUEST_OVERRUN: a complete frame has found the pending-request buffer occupied (R181). -/
def requestOverrun (s : State) : State :=
  match s.mgp.pending with
  | .free => s
  | _ => s.mapMgp fun m => { m with portOverrun := true, assembly := [] }

end Sys2Proof.Machine
end

