-- ==== Sys2Proof/Machine/Events.lean ====
section
/-! DEFINITION. Machine/Events.lean: the meaning of each command that is an event of a block. Every event has its effect in every
state; one whose occasion does not stand (a timer that does not run, a count not reached) leaves the state as it is. -/
namespace Sys2Proof.Machine

/-- What a command answers. -/
abbrev Result := Host.Outcome State Fault Refusal

/-- POWER_ON_RESET (R197). -/
def execPowerOnReset (s : State) : Result := .next (powerOnReset s)

/-- SENSE_FRAME (R52). -/
def execSenseFrame (frame : RawFrame) (s : State) : Result := .next (senseFrame frame s)

/-- BASELINE_END (R83). -/
def execBaselineEnd (s : State) : Result := .next (baselineEnd s)

/-- SETTLE_END (R84). -/
def execSettleEnd (s : State) : Result := .next (settleEnd s)

/-- MEASURE_END (R84 to R86). -/
def execMeasureEnd (s : State) : Result := .next (measureEnd s)

/-- RELEASE_SETTLE_END (R86). -/
def execReleaseSettleEnd (s : State) : Result := .next (releaseSettleEnd s)

/-- TEST_LOAD_OFF_OWED_PLACED (R86). -/
def execTestLoadOffOwedPlaced (s : State) : Result := .next (placeOwedRelease s)

/-- EVALUATION_WINDOW_COMPLETION (R53, R54). -/
def execEvaluationWindowCompletion (order : List WindowBlock) (s : State) : Result := .next (completeWindow order s)

/-- ZERO_CROSSING (R58). -/
def execZeroCrossing (phase : Fin 3) (counter : Nat) (s : State) : Result := .next (zeroCrossing phase counter s)

/-- LOSS_LIMIT_EXPIRY (R61). -/
def execLossLimitExpiry (phase : Fin 3) (s : State) : Result := .next (lossLimitExpiry phase s)

/-- RETRY_DELAY_EXPIRY (R39). -/
def execRetryDelayExpiry (module : Fin 6) (s : State) : Result := .next (retryDelayExpired module s)

/-- RUN_TIME_SECOND (R41). -/
def execRunTimeSecond (module : Fin 6) (s : State) : Result := .next (runTimeSecond module s)

/-- SHED_SETTLE_EXPIRY (R96). -/
def execShedSettleExpiry (s : State) : Result := .next (shedSettleExpiry s)

/-- STABLE_TIMER_EXPIRY (R98, R100). -/
def execStableTimerExpiry (s : State) : Result := .next (stableTimerExpiry s)

/-- SEQ_JUDGE_SLOT (R122). -/
def execSeqJudgeSlot (s : State) : Result := .next (seqJudgeSlot s)

/-- AWAIT_TIMER_EXPIRY (R124). -/
def execAwaitTimerExpiry (s : State) : Result := .next (awaitTimerExpiry s)

/-- SETTLE_TIMER_EXPIRY (R125). -/
def execSettleTimerExpiry (s : State) : Result := .next (settleTimerExpiry s)

/-- RESTORE_SETTLE_EXPIRY (R133). -/
def execRestoreSettleExpiry (s : State) : Result := .next (restoreSettleExpiry s)

/-- LEAK_SAMPLE (R141, R143). -/
def execLeakSample (readings : Vector LeakReading 8) (s : State) : Result := .next (leakSample readings s)

/-- ISOLATION_DELAY_EXPIRY (R151). -/
def execIsolationDelayExpiry (zone : Fin 8) (s : State) : Result := .next (isolationDelayExpiry zone s)

/-- LINE_GRANT (R173). -/
def execLineGrant (s : State) : Result := .next (lineGrant s)

/-- CALL_END (R159). -/
def execCallEnd (s : State) : Result := .next (callEnd s)

/-- RESPONSE_TIMEOUT (R159). -/
def execResponseTimeout (s : State) : Result := .next (responseTimeout s)

/-- ANSWER_FIRST_CHARACTER (R159). -/
def execAnswerFirstCharacter (s : State) : Result := .next (answerFirstCharacter s)

/-- ANSWER_COMPLETE (R160). -/
def execAnswerComplete (chars : List LineChar) (s : State) : Result := .next (answerComplete chars s)

/-- ANSWER_GAP_TIMEOUT (R159). -/
def execAnswerGapTimeout (s : State) : Result := .next (answerGapTimeout s)

/-- JABBER_IN_ANSWER (R161). -/
def execJabberInAnswer (cause : JabberCause) (s : State) : Result := .next (jabberInAnswer cause s)

/-- LINK_JABBER (R161). -/
def execLinkJabber (s : State) : Result := .next (linkJabber s)

/-- CHARACTER_OUTSIDE_TRANSACTION (R160). -/
def execCharacterOutsideTransaction (s : State) : Result := .next (characterOutsideTransaction s)

/-- LINE_IDLE (R159). -/
def execLineIdle (s : State) : Result := .next (lineIdle s)

/-- POLL_CYCLE_EXPIRY (R166). -/
def execPollCycleExpiry (s : State) : Result := .next (pollCycleExpiry s)

/-- PASS_THROUGH_NOT_SENT (R185). -/
def execPassThroughNotSent (s : State) : Result := .next (passThroughNotSent s)

/-- HOST_SILENT (R190). -/
def execHostSilent (s : State) : Result := .next (hostSilent s)

/-- COMMIT_COMPLETION (R195). -/
def execCommitCompletion (imageMatches : Bool) (s : State) : Result := .next (commitCompletion imageMatches s)

/-- REQUEST_CRC_DISCARD: a frame whose CRC does not match is counted (R180). -/
def execRequestCrcDiscard (chars : List PortChar) (s : State) : Result := .next (hearChars chars s)

/-- REQUEST_OVERRUN (R181). -/
def execRequestOverrun (s : State) : Result := .next (requestOverrun s)

/-- REQUEST_GAP_ABANDON: a gap of more than 2 ms abandons the frame (R180). -/
def execRequestGapAbandon (s : State) (chars : List PortChar := []) : Result := .next (gapAbandon chars s)

/-- REQUEST_FRAMING_ERROR: a framing error abandons the frame in assembly; in HUNTING it discards that byte alone (R180). -/
def execRequestFramingError (s : State) (chars : List PortChar := [PortChar.broken]) : Result := .next (hearChars chars s)

/-- REQUEST_LENGTH_ABANDON: a length byte above 240 abandons the frame (R180). -/
def execRequestLengthAbandon (chars : List PortChar) (s : State) : Result := .next (hearChars chars s)

/-- REPLY_SENT (R178, R181, R199). -/
def execReplySent (s : State) : Result := .next (replySent s)

end Sys2Proof.Machine
end

