-- ==== Sys2Proof/Machine/Hosts.lean ====
section
/-! DEFINITION. Machine/Hosts.lean: the meaning of each command that is a host request: a complete frame of its kind arrives at the
Management Port with a tag and a payload (R179 to R182). What each request does stands in Machine/Requests.lean. -/
namespace Sys2Proof.Machine

/-- UNKNOWN_KIND (R182): a complete frame of a kind outside the catalogue. -/
def execUnknownKind (kind tag : Byte) (payload : List Byte) (s : State) : Result :=
  .next (receiveRequest ⟨kind, tag, payload⟩ s)

/-- IDENTIFY (R186). -/
def execIdentify (tag : Byte) (payload : List Byte) (s : State) : Result :=
  .next (receiveRequest ⟨0x01, tag, payload⟩ s)

/-- GET_STATUS (R187). -/
def execGetStatus (tag : Byte) (payload : List Byte) (s : State) : Result :=
  .next (receiveRequest ⟨0x02, tag, payload⟩ s)

/-- READ_ESTIMATE (R110). -/
def execReadEstimate (tag : Byte) (payload : List Byte) (s : State) : Result :=
  .next (receiveRequest ⟨0x03, tag, payload⟩ s)

/-- SET_LEVEL (R193). -/
def execSetLevel (tag : Byte) (payload : List Byte) (s : State) : Result :=
  .next (receiveRequest ⟨0x04, tag, payload⟩ s)

/-- READ_SETTING (R194). -/
def execReadSetting (tag : Byte) (payload : List Byte) (s : State) : Result :=
  .next (receiveRequest ⟨0x05, tag, payload⟩ s)

/-- WRITE_SETTING (R194). -/
def execWriteSetting (tag : Byte) (payload : List Byte) (s : State) : Result :=
  .next (receiveRequest ⟨0x06, tag, payload⟩ s)

/-- COMMIT_SETTINGS (R195). -/
def execCommitSettings (tag : Byte) (payload : List Byte) (s : State) : Result :=
  .next (receiveRequest ⟨0x07, tag, payload⟩ s)

/-- REVERT_SETTINGS (R196). -/
def execRevertSettings (tag : Byte) (payload : List Byte) (s : State) : Result :=
  .next (receiveRequest ⟨0x08, tag, payload⟩ s)

/-- RESTART (R199). -/
def execRestart (tag : Byte) (payload : List Byte) (s : State) : Result :=
  .next (receiveRequest ⟨0x09, tag, payload⟩ s)

/-- READ_SLOT (R3). -/
def execReadSlot (tag : Byte) (payload : List Byte) (s : State) : Result :=
  .next (receiveRequest ⟨0x0A, tag, payload⟩ s)

/-- WRITE_SLOT (R4, R5, R202). -/
def execWriteSlot (tag : Byte) (payload : List Byte) (s : State) : Result :=
  .next (receiveRequest ⟨0x0B, tag, payload⟩ s)

/-- SLOT_POWER_ON (R13): a SLOT_POWER request, decided by its second payload byte. -/
def execSlotPowerOn (tag : Byte) (payload : List Byte) (s : State) : Result :=
  .next (receiveRequest ⟨0x0C, tag, payload⟩ s)

/-- SLOT_POWER_OFF (R16): a SLOT_POWER request, decided by its second payload byte. -/
def execSlotPowerOff (tag : Byte) (payload : List Byte) (s : State) : Result :=
  .next (receiveRequest ⟨0x0C, tag, payload⟩ s)

/-- SLOT_CLEAR (R9). -/
def execSlotClear (tag : Byte) (payload : List Byte) (s : State) : Result :=
  .next (receiveRequest ⟨0x0D, tag, payload⟩ s)

/-- READ_ZONES (R21). -/
def execReadZones (tag : Byte) (payload : List Byte) (s : State) : Result :=
  .next (receiveRequest ⟨0x0E, tag, payload⟩ s)

/-- ZONE_RELEASE (R25). -/
def execZoneRelease (tag : Byte) (payload : List Byte) (s : State) : Result :=
  .next (receiveRequest ⟨0x0F, tag, payload⟩ s)

/-- PLAN_BEGIN (R116). -/
def execPlanBegin (tag : Byte) (payload : List Byte) (s : State) : Result :=
  .next (receiveRequest ⟨0x10, tag, payload⟩ s)

/-- PLAN_STEPS (R117). -/
def execPlanSteps (tag : Byte) (payload : List Byte) (s : State) : Result :=
  .next (receiveRequest ⟨0x11, tag, payload⟩ s)

/-- PLAN_START (R120). -/
def execPlanStart (tag : Byte) (payload : List Byte) (s : State) : Result :=
  .next (receiveRequest ⟨0x12, tag, payload⟩ s)

/-- PLAN_PAUSE (R129). -/
def execPlanPause (tag : Byte) (payload : List Byte) (s : State) : Result :=
  .next (receiveRequest ⟨0x13, tag, payload⟩ s)

/-- PLAN_RESUME (R130). -/
def execPlanResume (tag : Byte) (payload : List Byte) (s : State) : Result :=
  .next (receiveRequest ⟨0x14, tag, payload⟩ s)

/-- PLAN_CANCEL (R131). -/
def execPlanCancel (tag : Byte) (payload : List Byte) (s : State) : Result :=
  .next (receiveRequest ⟨0x15, tag, payload⟩ s)

/-- READ_PLAN (R118). -/
def execReadPlan (tag : Byte) (payload : List Byte) (s : State) : Result :=
  .next (receiveRequest ⟨0x16, tag, payload⟩ s)

/-- READ_RECTIFIER (R32). -/
def execReadRectifier (tag : Byte) (payload : List Byte) (s : State) : Result :=
  .next (receiveRequest ⟨0x17, tag, payload⟩ s)

/-- RECTIFIER_ENABLE (R43). -/
def execRectifierEnable (tag : Byte) (payload : List Byte) (s : State) : Result :=
  .next (receiveRequest ⟨0x18, tag, payload⟩ s)

/-- RECTIFIER_DISABLE (R44). -/
def execRectifierDisable (tag : Byte) (payload : List Byte) (s : State) : Result :=
  .next (receiveRequest ⟨0x19, tag, payload⟩ s)

/-- RECTIFIER_CLEAR (R45). -/
def execRectifierClear (tag : Byte) (payload : List Byte) (s : State) : Result :=
  .next (receiveRequest ⟨0x1A, tag, payload⟩ s)

/-- READ_BATTERY (R80). -/
def execReadBattery (tag : Byte) (payload : List Byte) (s : State) : Result :=
  .next (receiveRequest ⟨0x1B, tag, payload⟩ s)

/-- START_IMPEDANCE_TEST (R82). -/
def execStartImpedanceTest (tag : Byte) (payload : List Byte) (s : State) : Result :=
  .next (receiveRequest ⟨0x1C, tag, payload⟩ s)

/-- READ_LEAK (R140). -/
def execReadLeak (tag : Byte) (payload : List Byte) (s : State) : Result :=
  .next (receiveRequest ⟨0x1D, tag, payload⟩ s)

/-- WRITE_LEAK (R139). -/
def execWriteLeak (tag : Byte) (payload : List Byte) (s : State) : Result :=
  .next (receiveRequest ⟨0x1E, tag, payload⟩ s)

/-- LEAK_ACK (R147). -/
def execLeakAck (tag : Byte) (payload : List Byte) (s : State) : Result :=
  .next (receiveRequest ⟨0x1F, tag, payload⟩ s)

/-- READ_POLL_TABLE (R165). -/
def execReadPollTable (tag : Byte) (payload : List Byte) (s : State) : Result :=
  .next (receiveRequest ⟨0x20, tag, payload⟩ s)

/-- WRITE_POLL_TABLE (R165). -/
def execWritePollTable (tag : Byte) (payload : List Byte) (s : State) : Result :=
  .next (receiveRequest ⟨0x21, tag, payload⟩ s)

/-- READ_UNIT (R162). -/
def execReadUnit (tag : Byte) (payload : List Byte) (s : State) : Result :=
  .next (receiveRequest ⟨0x22, tag, payload⟩ s)

/-- UNIT_UNQUIET (R164). -/
def execUnitUnquiet (tag : Byte) (payload : List Byte) (s : State) : Result :=
  .next (receiveRequest ⟨0x23, tag, payload⟩ s)

/-- LINK_RESET (R177). -/
def execLinkReset (tag : Byte) (payload : List Byte) (s : State) : Result :=
  .next (receiveRequest ⟨0x24, tag, payload⟩ s)

/-- PASS_THROUGH (R174). -/
def execPassThrough (tag : Byte) (payload : List Byte) (s : State) : Result :=
  .next (receiveRequest ⟨0x25, tag, payload⟩ s)

/-- FETCH_NOTICES (R189). -/
def execFetchNotices (tag : Byte) (payload : List Byte) (s : State) : Result :=
  .next (receiveRequest ⟨0x26, tag, payload⟩ s)

end Sys2Proof.Machine
end

