-- ==== Sys2Proof/Machine/Dispatch.lean ====
section
/-! DEFINITION. Machine/Dispatch.lean: one arm per command, each a call of its meaning. -/
namespace Sys2Proof.Machine

def exec (i : Instr) (s : State) : Host.Outcome State Fault Refusal :=
  match i with
  | .powerOnReset => Sys2Proof.Machine.execPowerOnReset s
  | .senseFrame frame => Sys2Proof.Machine.execSenseFrame frame s
  | .baselineEnd => Sys2Proof.Machine.execBaselineEnd s
  | .settleEnd => Sys2Proof.Machine.execSettleEnd s
  | .measureEnd => Sys2Proof.Machine.execMeasureEnd s
  | .releaseSettleEnd => Sys2Proof.Machine.execReleaseSettleEnd s
  | .testLoadOffOwedPlaced => Sys2Proof.Machine.execTestLoadOffOwedPlaced s
  | .evaluationWindowCompletion order => Sys2Proof.Machine.execEvaluationWindowCompletion order s
  | .zeroCrossing phase counter => Sys2Proof.Machine.execZeroCrossing phase counter s
  | .lossLimitExpiry phase => Sys2Proof.Machine.execLossLimitExpiry phase s
  | .retryDelayExpiry module => Sys2Proof.Machine.execRetryDelayExpiry module s
  | .runTimeSecond module => Sys2Proof.Machine.execRunTimeSecond module s
  | .shedSettleExpiry => Sys2Proof.Machine.execShedSettleExpiry s
  | .stableTimerExpiry => Sys2Proof.Machine.execStableTimerExpiry s
  | .seqJudgeSlot => Sys2Proof.Machine.execSeqJudgeSlot s
  | .awaitTimerExpiry => Sys2Proof.Machine.execAwaitTimerExpiry s
  | .settleTimerExpiry => Sys2Proof.Machine.execSettleTimerExpiry s
  | .restoreSettleExpiry => Sys2Proof.Machine.execRestoreSettleExpiry s
  | .leakSample readings => Sys2Proof.Machine.execLeakSample readings s
  | .isolationDelayExpiry zone => Sys2Proof.Machine.execIsolationDelayExpiry zone s
  | .lineGrant => Sys2Proof.Machine.execLineGrant s
  | .callEnd => Sys2Proof.Machine.execCallEnd s
  | .responseTimeout => Sys2Proof.Machine.execResponseTimeout s
  | .answerComplete chars => Sys2Proof.Machine.execAnswerComplete chars s
  | .answerGapTimeout => Sys2Proof.Machine.execAnswerGapTimeout s
  | .jabberInAnswer cause => Sys2Proof.Machine.execJabberInAnswer cause s
  | .linkJabber => Sys2Proof.Machine.execLinkJabber s
  | .lineIdle => Sys2Proof.Machine.execLineIdle s
  | .pollCycleExpiry => Sys2Proof.Machine.execPollCycleExpiry s
  | .passThroughNotSent => Sys2Proof.Machine.execPassThroughNotSent s
  | .hostSilent => Sys2Proof.Machine.execHostSilent s
  | .commitCompletion imageMatches => Sys2Proof.Machine.execCommitCompletion imageMatches s
  | .requestCrcDiscard chars => Sys2Proof.Machine.execRequestCrcDiscard chars s
  | .requestOverrun => Sys2Proof.Machine.execRequestOverrun s
  | .requestGapAbandon chars => Sys2Proof.Machine.execRequestGapAbandon s chars
  | .replySent => Sys2Proof.Machine.execReplySent s
  | .unknownKind kind tag payload => Sys2Proof.Machine.execUnknownKind kind tag payload s
  | .identify tag payload => Sys2Proof.Machine.execIdentify tag payload s
  | .getStatus tag payload => Sys2Proof.Machine.execGetStatus tag payload s
  | .readEstimate tag payload => Sys2Proof.Machine.execReadEstimate tag payload s
  | .setLevel tag payload => Sys2Proof.Machine.execSetLevel tag payload s
  | .readSetting tag payload => Sys2Proof.Machine.execReadSetting tag payload s
  | .writeSetting tag payload => Sys2Proof.Machine.execWriteSetting tag payload s
  | .commitSettings tag payload => Sys2Proof.Machine.execCommitSettings tag payload s
  | .revertSettings tag payload => Sys2Proof.Machine.execRevertSettings tag payload s
  | .restart tag payload => Sys2Proof.Machine.execRestart tag payload s
  | .readSlot tag payload => Sys2Proof.Machine.execReadSlot tag payload s
  | .writeSlot tag payload => Sys2Proof.Machine.execWriteSlot tag payload s
  | .slotPowerOn tag payload => Sys2Proof.Machine.execSlotPowerOn tag payload s
  | .slotPowerOff tag payload => Sys2Proof.Machine.execSlotPowerOff tag payload s
  | .slotClear tag payload => Sys2Proof.Machine.execSlotClear tag payload s
  | .readZones tag payload => Sys2Proof.Machine.execReadZones tag payload s
  | .zoneRelease tag payload => Sys2Proof.Machine.execZoneRelease tag payload s
  | .planBegin tag payload => Sys2Proof.Machine.execPlanBegin tag payload s
  | .planSteps tag payload => Sys2Proof.Machine.execPlanSteps tag payload s
  | .planStart tag payload => Sys2Proof.Machine.execPlanStart tag payload s
  | .planPause tag payload => Sys2Proof.Machine.execPlanPause tag payload s
  | .planResume tag payload => Sys2Proof.Machine.execPlanResume tag payload s
  | .planCancel tag payload => Sys2Proof.Machine.execPlanCancel tag payload s
  | .readPlan tag payload => Sys2Proof.Machine.execReadPlan tag payload s
  | .readRectifier tag payload => Sys2Proof.Machine.execReadRectifier tag payload s
  | .rectifierEnable tag payload => Sys2Proof.Machine.execRectifierEnable tag payload s
  | .rectifierDisable tag payload => Sys2Proof.Machine.execRectifierDisable tag payload s
  | .rectifierClear tag payload => Sys2Proof.Machine.execRectifierClear tag payload s
  | .readBattery tag payload => Sys2Proof.Machine.execReadBattery tag payload s
  | .startImpedanceTest tag payload => Sys2Proof.Machine.execStartImpedanceTest tag payload s
  | .readLeak tag payload => Sys2Proof.Machine.execReadLeak tag payload s
  | .writeLeak tag payload => Sys2Proof.Machine.execWriteLeak tag payload s
  | .leakAck tag payload => Sys2Proof.Machine.execLeakAck tag payload s
  | .readPollTable tag payload => Sys2Proof.Machine.execReadPollTable tag payload s
  | .writePollTable tag payload => Sys2Proof.Machine.execWritePollTable tag payload s
  | .readUnit tag payload => Sys2Proof.Machine.execReadUnit tag payload s
  | .unitUnquiet tag payload => Sys2Proof.Machine.execUnitUnquiet tag payload s
  | .linkReset tag payload => Sys2Proof.Machine.execLinkReset tag payload s
  | .passThrough tag payload => Sys2Proof.Machine.execPassThrough tag payload s
  | .fetchNotices tag payload => Sys2Proof.Machine.execFetchNotices tag payload s
  | .answerFirstCharacter => Sys2Proof.Machine.execAnswerFirstCharacter s
  | .characterOutsideTransaction => Sys2Proof.Machine.execCharacterOutsideTransaction s
  | .requestFramingError chars => Sys2Proof.Machine.execRequestFramingError s chars
  | .requestLengthAbandon chars => Sys2Proof.Machine.execRequestLengthAbandon chars s

end Sys2Proof.Machine
end

