-- ==== Sys2Proof/Safety.lean ====
section
/-! DEFINITION. Safety.lean: what the statements about the machine are said in: which blocks a command may change, when the port is
ready for a request and what an answered request leaves there, and the invariants that the spec gives the part's records. -/
namespace Sys2Proof.Safety
open Sys2Proof.Machine

/-! ## What a command changes -/

/-- A block's state is the same in both. -/
def sameBlock (s t : State) : Block → Prop
  | .mgp => t.mgp = s.mgp
  | .nq => t.nq = s.nq
  | .lvs => t.lvs = s.lvs
  | .sfe => t.sfe = s.sfe
  | .acm => t.acm = s.acm
  | .rsv => t.rsv = s.rsv
  | .bmn => t.bmn = s.bmn
  | .brc => t.brc = s.brc
  | .ldm => t.ldm = s.ldm
  | .seq => t.seq = s.seq
  | .lkm => t.lkm = s.lkm
  | .ulc => t.ulc = s.ulc

/-- `t` has the part time and the queue of `s`, and the state of every block that is not listed. -/
def changesOnly (blocks : List Block) (s t : State) : Prop :=
  t.partTime = s.partTime ∧ t.pending = s.pending ∧ ∀ b, b ∉ blocks → sameBlock s t b

/-- Every slot but those in `l` keeps its record. -/
def slotsKeptBut (l : List (Fin 48)) (s t : State) : Prop := ∀ m, m ∉ l → t.slot m = s.slot m

/-- Every rectifier but one keeps its record. -/
def rectsKeptBut (k : Fin 6) (s t : State) : Prop := ∀ j, j ≠ k → t.rect j = s.rect j

/-- Every battery module but one keeps its record. -/
def battsKeptBut (i : Fin 4) (s t : State) : Prop := ∀ j, j ≠ i → t.batt j = s.batt j

/-! ## The Management Port (R181 to R183, R190) -/

/-- The port takes a request at once: the pending-request buffer is free and no reply is being sent (R181). -/
def portReady (s : State) : Prop := s.mgp.pending = .free ∧ s.mgp.reply = none

/-- The state a request of a known kind is decided against: its frame has left the receive assembly, and HOST_SILENT is cleared
(R180, R182, R190). -/
def heard (s : State) : State := clearSilence (abandonFrame s)

/-- A state once a request of kind `kind` and tag `tag` has been answered: the reply frame stands in the reply buffer and its bits go out, the
pending-request buffer is free, and the host-silence timer runs from HostSilenceS (R181, R183, R190). -/
def replied (kind tag : Byte) (r : Response) (s : State) : State :=
  { s with mgp := { s.mgp with
      reply := some (replyFrame kind tag r)
      sending := (replyFrame kind tag r).flatMap portBits
      pending := .free
      silenceTimer := if s.cfg.hostSilenceS = 0 then none else some (s.cfg.hostSilenceS * 1000) } }

/-- The request frame a command stands for, for the commands that are requests (R179, R200). SLOT_POWER_ON and SLOT_POWER_OFF are
one request kind. -/
def requestOf : Instr → Option Request
  | .unknownKind k t p => some ⟨k, t, p⟩
  | .identify t p => some ⟨0x01, t, p⟩
  | .getStatus t p => some ⟨0x02, t, p⟩
  | .readEstimate t p => some ⟨0x03, t, p⟩
  | .setLevel t p => some ⟨0x04, t, p⟩
  | .readSetting t p => some ⟨0x05, t, p⟩
  | .writeSetting t p => some ⟨0x06, t, p⟩
  | .commitSettings t p => some ⟨0x07, t, p⟩
  | .revertSettings t p => some ⟨0x08, t, p⟩
  | .restart t p => some ⟨0x09, t, p⟩
  | .readSlot t p => some ⟨0x0A, t, p⟩
  | .writeSlot t p => some ⟨0x0B, t, p⟩
  | .slotPowerOn t p => some ⟨0x0C, t, p⟩
  | .slotPowerOff t p => some ⟨0x0C, t, p⟩
  | .slotClear t p => some ⟨0x0D, t, p⟩
  | .readZones t p => some ⟨0x0E, t, p⟩
  | .zoneRelease t p => some ⟨0x0F, t, p⟩
  | .planBegin t p => some ⟨0x10, t, p⟩
  | .planSteps t p => some ⟨0x11, t, p⟩
  | .planStart t p => some ⟨0x12, t, p⟩
  | .planPause t p => some ⟨0x13, t, p⟩
  | .planResume t p => some ⟨0x14, t, p⟩
  | .planCancel t p => some ⟨0x15, t, p⟩
  | .readPlan t p => some ⟨0x16, t, p⟩
  | .readRectifier t p => some ⟨0x17, t, p⟩
  | .rectifierEnable t p => some ⟨0x18, t, p⟩
  | .rectifierDisable t p => some ⟨0x19, t, p⟩
  | .rectifierClear t p => some ⟨0x1A, t, p⟩
  | .readBattery t p => some ⟨0x1B, t, p⟩
  | .startImpedanceTest t p => some ⟨0x1C, t, p⟩
  | .readLeak t p => some ⟨0x1D, t, p⟩
  | .writeLeak t p => some ⟨0x1E, t, p⟩
  | .leakAck t p => some ⟨0x1F, t, p⟩
  | .readPollTable t p => some ⟨0x20, t, p⟩
  | .writePollTable t p => some ⟨0x21, t, p⟩
  | .readUnit t p => some ⟨0x22, t, p⟩
  | .unitUnquiet t p => some ⟨0x23, t, p⟩
  | .linkReset t p => some ⟨0x24, t, p⟩
  | .passThrough t p => some ⟨0x25, t, p⟩
  | .fetchNotices t p => some ⟨0x26, t, p⟩
  | .powerOnReset | .senseFrame _ | .baselineEnd | .settleEnd | .measureEnd | .releaseSettleEnd | .testLoadOffOwedPlaced
  | .evaluationWindowCompletion _ | .zeroCrossing _ _ | .lossLimitExpiry _ | .retryDelayExpiry _ | .runTimeSecond _
  | .shedSettleExpiry | .stableTimerExpiry | .seqJudgeSlot | .awaitTimerExpiry | .settleTimerExpiry | .restoreSettleExpiry
  | .leakSample _ | .isolationDelayExpiry _ | .lineGrant | .callEnd | .responseTimeout | .answerComplete _
  | .answerGapTimeout | .jabberInAnswer _ | .linkJabber | .lineIdle | .pollCycleExpiry | .passThroughNotSent | .hostSilent
  | .commitCompletion _ | .requestCrcDiscard _ | .requestOverrun | .requestGapAbandon _ | .replySent | .answerFirstCharacter
  | .characterOutsideTransaction | .requestFramingError _ | .requestLengthAbandon _ => none

/-- The payload lengths a known kind accepts (the table of R205). WRITE_SETTING's width is a matter of its setting (R202). -/
def acceptsLength (kind : Byte) (n : Nat) : Bool :=
  match kind.toNat with
  | 0x04 | 0x0A | 0x0D | 0x0F | 0x17 | 0x18 | 0x19 | 0x1A | 0x1B | 0x1C | 0x1D | 0x1F | 0x22 | 0x23 | 0x26 => n == 1
  | 0x05 | 0x0C | 0x16 => n == 2
  | 0x06 => n == 3 || n == 4
  | 0x0B => n == 9
  | 0x10 => n == 4
  | 0x11 => 19 ≤ n && n ≤ 240 && (n - 2) % 17 == 0
  | 0x1E => n == 25
  | 0x21 => n ≤ 240
  | 0x25 => 1 ≤ n && n ≤ 33
  | _ => n == 0

/-! ## Invariants -/

/-- R188: at most 32 notices are queued, and ATTN# is asserted exactly while one is. -/
def NoticesOk (s : State) : Prop := s.nq.notices.length ≤ 32 ∧ (s.nq.attn = true ↔ s.nq.notices ≠ [])

/-- R73: every module's Q is within 0 to Cap and its residue within −35,999 to +35,999. -/
def ChargeOk (s : State) : Prop :=
  ∀ i : Fin 4, (s.batt i).q ≤ s.cfg.batteryCapacity[i] ∧ -35999 ≤ (s.batt i).r ∧ (s.batt i).r ≤ 35999

/-- The presence of a unit, that of a QUIET one being the presence it had (R164). -/
def presenceKept (s : State) (x : UnitId) : Presence :=
  match s.presence x with
  | .quiet => (s.ulc.units.get x).prior.getD .unknown
  | p => p

/-- R6, R34, R69, R164: a slot whose unit is not PRESENT is VACANT, and a rectifier or a battery module is ABSENT exactly while its unit is
not PRESENT, a QUIET unit keeping the presence it had. -/
def PresentOk (s : State) : Prop :=
  (∀ n : Fin 48, presenceKept s (.slot n) ≠ .present → (s.slot n).state = .vacant) ∧
  (∀ k : Fin 6, (s.rect k).state = .absent ↔ presenceKept s (.rectifier k) ≠ .present) ∧
  ∀ i : Fin 4, (s.batt i).state = .absent ↔ presenceKept s (.battery i) ≠ .present

/-- R76, R78, R82, R87: the last bridge state the Battery Monitor received is the one the Bridge Controller is in; a module is TESTING
exactly while a test runs on it, which it does in GRID with the shelf AC state GOOD alone; and the test context names a module exactly
while it is not IDLE. -/
def TestOk (s : State) : Prop :=
  (∀ i : Fin 4, (s.batt i).state = .testing ↔ s.bmn.test.module = some i ∧ s.bmn.test.phase.running = true) ∧
  (s.bmn.test.module = none ↔ s.bmn.test.phase = .idle) ∧
  s.bmn.lastBridge = s.brc.state ∧ (s.bmn.test.phase.running = true → s.bmn.lastBridge = .grid ∧ s.acm.shelf = .good)

/-- R41: no retry count exceeds RetryLimit, and a LOCKED_OUT rectifier's count equals it. -/
def RetryOk (s : State) : Prop :=
  ∀ k : Fin 6, (s.rect k).retryCount ≤ s.cfg.retryLimit ∧
    ((s.rect k).state = .lockedOut → (s.rect k).retryCount = s.cfg.retryLimit)

/-- R46: every contribution is the one its state gives, and P_avail is formed from the six. -/
def CapacityOk (s : State) : Prop :=
  (∀ k : Fin 6, (s.rect k).contribution =
    contributionFor s.cfg.rectifierRating[k] (s.rect k).state (s.rect k).derate) ∧
  s.rsv.pAvail = capacityOf s.cfg.redundancy (contributions s.rsv.rects)

/-- R10: P_comm is the sum of the allocations of the slots in ENERGIZING or ON. -/
def CommittedOk (s : State) : Prop := s.ldm.pComm = committedLoad s.cfg s.ldm.slots

/-- R11: RampLevel is within 0 to RampCeilingW. -/
def RampOk (s : State) : Prop := s.ldm.rampLevel ≤ s.cfg.rampCeilingW

/-- R27: every slot of the Restore List is SHED with reason BRIDGING or DEPLETED, and none stands in it twice. -/
def RestoreOk (s : State) : Prop :=
  s.ldm.restoreList.Nodup ∧ ∀ n ∈ s.ldm.restoreList, (s.slot n).state = .shed ∧
    ((s.slot n).shedReason = some .bridging ∨ (s.slot n).shedReason = some .depleted)

/-- R22, R26: each zone shed line follows the zone's isolated field; a slot of an isolated zone is VACANT or ISOLATED, and a slot
of another zone is not ISOLATED. -/
def ZonesOk (s : State) : Prop :=
  (∀ z : Fin 8, (s.zone z).line = (s.zone z).isolated) ∧
  ∀ n : Fin 48, if (s.zone (s.zoneOf n)).isolated then (s.slot n).state = .vacant ∨ (s.slot n).state = .isolated
    else (s.slot n).state ≠ .isolated

/-- R21, R149, R151: every zone's wet field is what the channels make it, the Leak Monitor's wet view agrees with it, and the zone
record shows the Leak Monitor's delay timer. -/
def WetOk (s : State) : Prop :=
  ∀ z : Fin 8, s.lkm.wetView[z] = s.zoneIsWet z ∧ (s.zone z).wet = s.zoneIsWet z ∧
    (s.zone z).isolationDelay = s.lkm.delay[z]

/-- R169: a call's record holds at most the 3 tries that CmdRetries allows, and a POWER OFF is for a slot. -/
abbrev RecordOk (r : CommandRecord) : Prop := r.tries ≤ 3 ∧ (r.kind = .powerOff → ∃ n : Fin 48, r.target = .slot n)

/-- R169, R170: Q1 with an in-flight record of its own holds at most 64 records, no more than one POWER call is queued for a slot,
Q0 holds POWER OFF calls for slots alone, at most 48 of them, and Q1 none, and no record, the one in flight included, has more than
3 tries. -/
def QueuesOk (s : State) : Prop :=
  s.ulc.q1Load ≤ 64 ∧ s.ulc.q0.length ≤ 48 ∧
  (∀ n : Fin 48, ((s.ulc.q0 ++ s.ulc.q1).filter (isPowerFor n)).length ≤ 1) ∧
  (∀ r ∈ s.ulc.q0, r.kind = .powerOff) ∧ (∀ r ∈ s.ulc.q1, r.kind ≠ .powerOff) ∧
  ∀ r ∈ s.ulc.q0 ++ s.ulc.q1 ++ s.ulc.inFlight.toList, RecordOk r

/-- R114, R117: a step names at most 8 slots, none twice, and its times stand within their ranges. -/
abbrev StepOk (p : PlanStep) : Prop :=
  p.slots.length ≤ 8 ∧ p.slots.Nodup ∧ p.settleMs ≤ 60000 ∧ 100 ≤ p.readyTimeoutMs ∧ p.readyTimeoutMs ≤ 600000

/-- R114: a plan holds 1 to 64 steps. -/
abbrev PlanOk (p : Plan) : Prop := 1 ≤ p.steps.length ∧ p.steps.length ≤ 64 ∧ ∀ x ∈ p.steps, StepOk x

/-- R115: a READY buffer holds a plan of 1 to 64 steps, each written; a FILLING buffer as many indices, one of them at least
unwritten. -/
def BufferOk : PlanBuffer → Prop
  | .empty => True
  | .filling _ steps => 1 ≤ steps.length ∧ steps.length ≤ 64 ∧ none ∈ steps ∧ ∀ x ∈ steps.filterMap id, StepOk x
  | .ready p => PlanOk p

/-- R138, R143: a channel is DISABLED exactly when it is not enabled, and its run count is at most 1,000. -/
def ChannelsOk (s : State) : Prop :=
  ∀ c : Fin 8, ((s.channel c).state = .disabled ↔ (s.leakCfg c).enabled = false) ∧ (s.channel c).runCount ≤ 1000

/-- The state whose position the sequencer holds: its own, or the one a restore run keeps (R119, R132). -/
def heldState (q : Seq) : SeqState :=
  match q.state, q.restore with
  | .restoring, some r => r.kept.getD .idle
  | st, _ => st

/-- R115, R119, R132: a sequencer that holds a position has an ACTIVE plan, with the step index below its step count, the cursor within
the step's slots and the admitted set among the slots before the cursor; one that holds none has no ACTIVE plan and an empty
admitted set. A restore run stands exactly while the state is RESTORING, and keeps neither IDLE nor RESTORING; paused-from stands exactly
while the position is PAUSED, and names RUNNING, AWAITING, SETTLING or HELD; a hold reason stands exactly while it is HELD. -/
def SequencerOk (s : State) : Prop :=
  let q := s.seq
  BufferOk q.staged ∧
  (heldState q ≠ .idle → ∃ p step, q.active = some p ∧ PlanOk p ∧ p.steps[q.stepIndex]? = some step ∧
    q.cursor ≤ step.slots.length ∧ (q.admitted.map (·.1)).Sublist (step.slots.take q.cursor)) ∧
  (heldState q = .idle → q.active = none ∧ q.admitted = []) ∧ q.stepIndex < 64 ∧ q.cursor ≤ 8 ∧
  (q.state = .restoring ↔ q.restore ≠ none) ∧
  (∀ r, q.restore = some r → r.kept ≠ some .idle ∧ r.kept ≠ some .restoring) ∧
  (heldState q = .paused ↔ q.pausedFrom ≠ none) ∧ (heldState q = .held ↔ q.holdReason ≠ none) ∧
  ∀ st r, q.pausedFrom = some (st, r) → st ∈ [.running, .awaiting, .settling, .held] ∧ (st = .held ↔ r ≠ none)

/-- R167: a range lies within 0x10 to 0x4F and holds a power of two of addresses. -/
abbrev RangeOk (r : AddrRange) : Prop := 0x10 ≤ r.lo ∧ r.hi ≤ 0x4F ∧ ∃ k : Fin 7, r.hi + 1 = r.lo + 2 ^ (k : Nat)

/-- How many addresses a range holds. -/
def rangeSize (r : AddrRange) : Nat := r.hi + 1 - r.lo

/-- R155, R159, R167: the current range and the Split Stack, top first, hold at most 8 stacked ranges, each within 0x10 to 0x4F, disjoint
and ascending, each stacked range larger than the one above it; a stacked range waits under a current one; an EVENT_CALL on the line calls
the current range, which is not that of a QUIET unit. A transaction stands exactly while the line is in CALL, WAIT or ANSWER, the response
timer runs in WAIT alone, and the part sends the bits of its call in CALL alone. -/
def LinkOk (s : State) : Prop :=
  let u := s.ulc
  let ranges := u.current.toList ++ u.stack
  u.stack.length ≤ 8 ∧ (∀ r ∈ ranges, RangeOk r) ∧ ranges.Pairwise (fun a b => a.hi < b.lo ∧ rangeSize a ≤ rangeSize b) ∧
  u.stack.Pairwise (fun a b => rangeSize a < rangeSize b) ∧ (u.current = none → u.stack = []) ∧
  (∀ r, u.transaction = some (.eventCall r true) → u.current = some r ∧ u.quietRange r = false) ∧
  (u.transaction = none ↔ u.line = .idle ∨ u.line = .guarded) ∧ (u.responseTimer ≠ none ↔ u.line = .wait) ∧
  (∀ t, u.transaction = some t → u.line = .call → u.sending = t.callBits) ∧ (u.line ≠ .call → u.sending = [])

/-- R165 to R167, R176: the cursor stands at work that is due, or no cycle runs, so that nothing is left to be passed over; and a live poll
or round transaction is that of the entry at the cursor, the round's of its current range or of the unit it is to read. -/
def PollOk (s : State) : Prop :=
  let u := s.ulc
  let at? := fun e : PollEntry => u.cycleRunning = true ∧ s.cfg.pollTable[u.cursor]? = some e
  u.passOver s.cfg.pollTable = none ∧
  (∀ x, u.transaction = some (.poll x true) → at? (.unit x)) ∧
  (∀ r, u.transaction = some (.eventCall r true) → at? .eventRound ∧ u.current = some r ∧ u.toRead = none) ∧
  ∀ x, u.transaction = some (.eventRead x true) → at? .eventRound ∧ u.toRead = some x

/-- R178, R180, R183: the bits the port sends are those of the reply in its buffer, and none without a reply; the CRC-discard count is at most
65,535; and an assembly that holds bytes holds a sync byte first, and behind it a length of at most 240 with fewer bytes than it calls for. -/
def PortOk (s : State) : Prop :=
  s.mgp.sending = (match s.mgp.reply with | some frame => frame.flatMap portBits | none => []) ∧
  s.mgp.crcDiscards ≤ 65535 ∧
  match s.mgp.assembly with
  | [] => True
  | [sync] => sync = 0xA5
  | sync :: len :: rest => sync = 0xA5 ∧ len.toNat ≤ 240 ∧ rest.length + 2 < len.toNat + 6

/-- R64: the shelf AC state is the one the three phase states give. -/
def ShelfOk (s : State) : Prop := s.acm.shelf = shelfOf s.acm.phases

/-- R138: a leak channel's settings stand within their ranges: a zone set that is not empty, and DryThreshold at most
WetThreshold. -/
abbrev LeakInRange (l : LeakSettings) : Prop :=
  l.zoneSet ≠ 0 ∧ 1 ≤ l.wetThreshold ∧ l.wetThreshold ≤ 10000 ∧ l.dryThreshold ≤ l.wetThreshold ∧
  1 ≤ l.wetCount ∧ l.wetCount ≤ 255 ∧ 1 ≤ l.dryCount ∧ l.dryCount ≤ 1000 ∧ 1 ≤ l.openCount ∧ l.openCount ≤ 255 ∧
  l.isolateDelayMs ≤ 10000 ∧ l.rlead ≤ 65535 ∧ 1 ≤ l.rpm ∧ l.rpm ≤ 65535 ∧ l.ropeLengthCm ≤ 6000

/-- The settings of R194, those of a slot (R3) and of a leak channel (R138), the Poll Table (R165) and the stored plan (R114, R115)
stand within their ranges. -/
def InRange (c : Settings) : Prop :=
  (∀ k : SettingKey, k.range.lo ≤ c.get k ∧ c.get k ≤ k.range.hi) ∧
  (∀ n : Fin 48, c.slots[n].allocation ≤ 4000 ∧ c.slots[n].inrush ≤ 8000 ∧ c.slots[n].cls ≤ 3 ∧ c.slots[n].rank ≤ 255) ∧
  (∀ ch : Fin 8, LeakInRange c.leaks[ch]) ∧ c.pollTable.length ≤ 64 ∧ BufferOk c.storedPlan

/-- R3, R194, R195: the working settings, a valid stored image and the copy of a commit in flight are all within their ranges. -/
def SettingsOk (s : State) : Prop :=
  InRange s.cfg ∧ (∀ c, s.lvs.image = some c → InRange c) ∧ ∀ c, s.lvs.commit = some c → InRange c.copy

/-! ## Ends and line states the statements are about -/

/-- No counted end of a test or window, and no owed release with room for its call, waits to be taken: the next SENSE_FRAME does
nothing but count (R52, R53, R83 to R86). -/
def nothingDue (s : State) : Prop :=
  s.sfe.window.count < 100 ∧
  (∀ i, s.bmn.test.module = some i →
    (s.bmn.test.phase = .baseline ∨ s.bmn.test.phase = .measure → s.bmn.test.count < 50) ∧
    (s.bmn.test.phase = .settle ∨ s.bmn.test.phase = .releaseSettle → s.bmn.test.count < 20) ∧
    (s.bmn.test.releaseOwed = true → s.roomInQ1 = false)) ∧
  (s.bmn.test.phase = .settle → s.bmn.test.count < 20)

/-- A unit that is PRESENT has been polled, and the characters of its answer are a good STATUS answer of kind `kind` (R160,
R163, R204). -/
def polled (s : State) (x : UnitId) (chars : List LineChar) (kind : Byte) (payload : List Byte) : Prop :=
  s.ulc.line = .answer ∧ s.presence x = .present ∧
  ∃ live, s.ulc.transaction = some (.poll x live) ∧
    (Transaction.poll x live).judge chars = .good ⟨x.address, kind, payload⟩

/-- The slot state a STATUS answer leaves, by the table of R7 with the seeding of R6. -/
def slotAfter (allocation : Nat) (isolated : Bool) : SlotState → UnitPower → SlotState
  | .vacant, p =>
    if allocation = 0 then .vacant
    else if isolated then .isolated
    else match p with
      | .off => .off
      | .starting | .ready => .on
      | .fault => .faulted
  | .off, .off => .off
  | .off, .starting | .off, .ready => .on
  | .off, .fault => .faulted
  | .energizing, .off | .energizing, .starting => .energizing
  | .energizing, .ready => .on
  | .energizing, .fault => .faulted
  | .on, .off => if allocation = 0 then .vacant else .off
  | .on, .starting | .on, .ready => .on
  | .on, .fault => .faulted
  | .shed, _ => .shed
  | .isolated, _ => .isolated
  | .faulted, _ => .faulted

/-- The state a FAULT answer gives a rectifier that is not FAULTED or LOCKED_OUT (R37). -/
def faultEntered (count limit : Nat) : RectifierState := if limit ≤ count then .lockedOut else .faulted

/-- The state an answer of a class gives a rectifier whose feed phase is PRESENT, by the table of R35, with R37 and R39 for a
FAULT; `code` is the derate code read. -/
def rectifierAfter (r : Rectifier) (limit code : Nat) (c : AnswerClass) : RectifierState :=
  match r.state, c with
  | .lockedOut, _ => .lockedOut
  | _, .on => if code = 16 then .online else .derated
  | _, .offDisabled => .standby
  | .faulted, .off => .faulted
  | _, .off => .standby
  | .faulted, .fault => if r.retryPhase = some .trial then faultEntered r.retryCount limit else .faulted
  | _, .fault => faultEntered r.retryCount limit

/-- The line is free and the arbiter finds nothing to clear away: no call waits for a QUIET unit, discovery has ended, no cycle
start is pending, and the cursor stands at work that is due or no cycle runs (R164, R166, R173). -/
def arbiterReady (s : State) : Prop :=
  s.ulc.line = .idle ∧ (∀ r ∈ s.ulc.q0 ++ s.ulc.q1, s.isQuiet r.target = false) ∧ s.ulc.discovery = none ∧
  s.ulc.startPending = false ∧ s.ulc.passOver s.cfg.pollTable = none

/-- The leak channel state a sample leaves, by sections 7.3's rules R144 to R146, with the run as the sample leaves it. -/
def leakAfter (l : LeakSettings) (cls : SampleClass) (run : Nat) (priorWet : Bool) : LeakState → LeakState
  | .dry =>
    match cls with
    | .wet => if l.wetCount ≤ run then .confirmed else .suspect
    | .openLoop => if l.openCount ≤ run then .openFault else .dry
    | .dry | .ambig => .dry
  | .suspect =>
    match cls with
    | .wet => if l.wetCount ≤ run then .confirmed else .suspect
    | .dry => .dry
    | .openLoop => if l.openCount ≤ run then .openFault else .suspect
    | .ambig => .suspect
  | .confirmed =>
    match cls with
    | .dry => if l.dryCount ≤ run then .latched else .confirmed
    | .openLoop => if l.openCount ≤ run then .openFault else .confirmed
    | .wet | .ambig => .confirmed
  | .latched =>
    match cls with
    | .wet => if l.wetCount ≤ run then .confirmed else .latched
    | .openLoop => if l.openCount ≤ run then .openFault else .latched
    | .dry | .ambig => .latched
  | .openFault =>
    match cls with
    | .dry => if l.dryCount ≤ run then (if priorWet then .latched else .dry) else .openFault
    | .wet => if l.wetCount ≤ run then .confirmed else .openFault
    | .openLoop | .ambig => .openFault
  | .disabled => .disabled

/-- R17 to R19: `taken` are the slots a shed request of an amount takes, and `t` is the state after. They are candidates (ENERGIZING or
ON, and for reason BRIDGING not of class 3), taken in order of rank and then of slot number, highest first, until their contributions
reach the amount or no candidate is left; each goes to SHED with the reason and to the head of the Restore List, and no other slot
changes. -/
def ShedTakes (reason : ShedReason) (amount : Nat) (s t : State) (taken : List (Fin 48)) : Prop :=
  let candidate := fun n => ((s.slot n).state = .energizing ∨ (s.slot n).state = .on) ∧
    (reason = .depleted ∨ (s.slotCfg n).cls ≠ 3)
  let before := fun m n => (s.slotCfg m).rank < (s.slotCfg n).rank ∨ ((s.slotCfg m).rank = (s.slotCfg n).rank ∧ n < m)
  (∀ n ∈ taken, candidate n ∧ (t.slot n).state = .shed ∧ (t.slot n).shedReason = some reason) ∧
  slotsKeptBut taken s t ∧ t.ldm.restoreList = taken.reverse ++ s.ldm.restoreList ∧ taken.Pairwise before ∧
  (∀ n, n ∉ taken → candidate n → amount ≤ (taken.map (contributionOf s)).sum ∧ ∀ m ∈ taken, before m n) ∧
  (taken ≠ [] → (taken.dropLast.map (contributionOf s)).sum < amount)

/-- R11, R18, R170: what a shed of the slots `taken`, made at a window completion, does to the calls and to RampLevel. A slot that was
ENERGIZING with its POWER ON in Q1 loses that call and gets no POWER OFF; whether the call was sent before and has returned is no
matter (the model's choice, log entry 35). Every other slot gets one POWER OFF at the tail of Q0, in the order taken, in place of any other
POWER call queued for it. A POWER ON withdrawn gives its charged inrush back, to a RampLevel that decays at the window. -/
def ShedCalls (s t : State) (taken : List (Fin 48)) : Prop :=
  let queued := fun n => s.ulc.q1.any (isPowerOnFor n)
  let off := taken.filter fun n => !((s.slot n).state == .energizing && queued n)
  t.ulc.q0 = (s.ulc.q0.filter fun r => !off.any (isPowerFor · r)) ++
    off.map (fun n => ⟨.slot n, .powerOff, none, .ldm, 0, false⟩) ∧
  (t.ulc.q1.filter fun r => r.kind == .powerOn) =
    (s.ulc.q1.filter fun r => r.kind == .powerOn && !taken.any (isPowerOnFor · r)) ∧
  (∀ n ∈ taken, (t.slot n).chargedInrush = if queued n then none else (s.slot n).chargedInrush) ∧
  t.ldm.rampLevel = s.ldm.rampLevel - s.cfg.rampDecayW -
    ((taken.filter queued).map fun n => (s.slot n).chargedInrush.getD 0).sum

/-- The state in which the Bridge Controller takes a window completion: its figures formed, and the temperature tests made where the
order of the blocks puts the Battery Monitor first (R53, R54, R74). -/
def bridgeSees (order : List WindowBlock) (s : State) : State :=
  if order.idxOf .brc < order.idxOf .bmn then formFigures s else batteryWindow (formFigures s)

/-- The state in which the sequencer takes a window completion: its figures formed, and the completion taken by the blocks that the
order puts before it (R53, R54). -/
def sequencerSees (order : List WindowBlock) (s : State) : State :=
  (formFigures s).forEach (order.takeWhile (· ≠ .seq)) WindowBlock.take

/-- A hold's reason can have cleared at a window completion (the table of R126). -/
def mayClear (s : State) : HoldReason → Prop
  | .level => s.lvs.level = .supervise ∧ s.lvs.startingUp = false
  | .bridging => s.seq.bridgeHold = false
  | .capacity | .ramp | .coverage | .queue | .link => True
  | .readyTimeout | .hostSilent => False

/-- The reason of a restore run in phase HELD can have cleared at a window completion (R126, R133). -/
def restoreMayClear (s : State) : RefusalReason → Prop
  | .level => s.lvs.level = .supervise ∧ s.lvs.startingUp = false
  | .bridging => s.seq.bridgeHold = false
  | _ => True

/-- No held admission and no held restore run is taken up again at a window completion (R126, R133). -/
def nothingHeld (s : State) : Prop :=
  (∀ h, s.seq.state = .held → s.seq.holdReason = some h → ¬ mayClear s h) ∧
  ∀ r e, s.seq.state = .restoring → s.seq.restore = some r → r.phase = .held → r.hold = some e → ¬ restoreMayClear s e

/-- What a restore run of kept state `kept` that has admitted `count` slots does in phase ADMIT (R133, R134): the head of the Restore List
is admitted and awaited, or the run is held for the refusal's reason. The admission is judged in the state `f`, and `t` is the state
after. -/
def RestoreAdmits (kept : Option SeqState) (count : Nat) (f s t : State) : Prop :=
  ∀ n rest, s.ldm.restoreList = n :: rest → t.seq.state = .restoring ∧ slotsKeptBut [n] s t ∧
    (admissionCheck .restore n f = none → (t.slot n).state = .energizing ∧ t.ldm.restoreList = rest.filter (· ≠ n) ∧
      t.seq.restore = some ⟨kept, .awaitAck, none, some n, none, count + 1⟩) ∧
    ∀ e, admissionCheck .restore n f = some e → t.ldm.slots = s.ldm.slots ∧ t.ldm.restoreList = s.ldm.restoreList ∧
      t.seq.restore = some ⟨kept, .held, some e, none, none, count⟩

/-- What the lifting of a hold with reason BRIDGING does (R127): a step begun goes on at the cursor, and one not begun is begun by R121,
which holds it again for the bridge or for a silent host. `s` has the position that is held. -/
def BridgingLifted (s t : State) : Prop :=
  ∀ p, s.seq.step = some p →
    (s.seq.stepBegun = true → s.seq.cursor < p.slots.length → t.seq = { s.seq with state := .running, holdReason := none }) ∧
    (s.seq.stepBegun = false → t.seq.cursor = 0 ∧ t.seq.admitted = [] ∧
      (t.seq.state, t.seq.holdReason, t.seq.settleTimer) =
        (if s.seq.bridgeHold then (.held, some .bridging, none)
        else if s.seq.hostSilent then (.held, some .hostSilent, none)
        else if p.slots = [] then (.settling, none, some p.settleMs) else (.running, none, none)))

/-- What the sequencer makes of the outcome of slot `n`'s POWER ON (R123, R133): an acknowledged one sets the marks of the slot's entries;
it, and the slot's departure from ENERGIZING, ends a restore run's wait for the slot; and in AWAITING the condition is tested, its
entries judged by the slots' present states (the model's choice, log entry 45). -/
def OutcomeReported (acked : Bool) (n : Fin 48) (s t : State) : Prop :=
  let satisfied := fun (p : PlanStep) (e : Fin 48 × Bool) =>
    p.await = .none ∨ (p.await = .ack ∧ e.2 = true) ∨ (t.slot e.1).state ≠ .energizing
  t.seq.admitted = (if acked then s.seq.admitted.map (fun e => if e.1 = n then (n, true) else e) else s.seq.admitted) ∧
  (∀ r, s.seq.restore = some r → t.seq.restore = some
    (if r.phase = .awaitAck ∧ r.slot = some n ∧ (acked = true ∨ (s.slot n).state = .energizing) then
      { r with phase := .settle, timer := some s.cfg.restoreSettleMs }
    else r)) ∧
  (s.seq.state ≠ .awaiting → t.seq.state = s.seq.state) ∧
  ∀ p, s.seq.state = .awaiting → s.seq.step = some p →
    ((∀ e ∈ t.seq.admitted, satisfied p e) → t.seq.state = .settling ∧ t.seq.settleTimer = some p.settleMs ∧
      t.seq.awaitTimer = none) ∧
    ((∃ e ∈ t.seq.admitted, ¬ satisfied p e) → t.seq.state = .awaiting ∧ t.seq.awaitTimer = s.seq.awaitTimer)

/-- The state in which the sequencer takes the Bridge Controller's entry into GRID: that state entered, every DEPLETED module ONLINE again
and the bridge hold ended (R100, R127). -/
def entersGrid (s : State) : State :=
  { s with
    brc := { s.brc with state := .grid }
    bmn := { s.bmn with batts := Vector.ofFn fun i : Fin 4 =>
      { s.batt i with state := if (s.batt i).state = .depleted then .online else (s.batt i).state } }
    seq := { s.seq with bridgeHold := false } }

/-- The state a written allocation leaves a slot in (R4): an OFF slot with 0 is VACANT, and a VACANT slot with a PRESENT unit takes the
state its unit calls for. -/
def afterAllocation (allocation : Nat) (isolated present : Bool) (power : Option UnitPower) (st : SlotState) : SlotState :=
  match st, power with
  | .off, _ => if allocation = 0 then .vacant else .off
  | .vacant, some p => if present then slotAfter allocation isolated .vacant p else .vacant
  | st, _ => st

/-- The state a changed zone leaves a slot in, by whether its old and its new zone are isolated (R5). -/
def afterZone (allocation : Nat) (old new : Bool) : SlotState → SlotState
  | .vacant => .vacant
  | .isolated => if old = true ∧ new = false then (if allocation = 0 then .vacant else .off) else .isolated
  | st => if new then .isolated else st

/-- What the Management Port reads as a run of bytes: the decided bits of the characters are those of the bytes (R178). -/
def portReads (chars : List PortChar) (bytes : List Byte) : Prop :=
  (chars.flatMap fun c => [bitValue c.start] ++ c.data.toList.map bitValue ++ [bitValue c.stop]) = bytes.flatMap portBits

/-- What the Unit Link reads as a run of answer bytes, each with a mark bit of 0 (R155, R157). -/
def lineReads (chars : List LineChar) (bytes : List Byte) : Prop :=
  (chars.flatMap fun c => [bitValue c.start] ++ c.data.toList.map bitValue ++ [bitValue c.mark, bitValue c.stop]) =
    bytes.flatMap fun b => (CallChar.mk false b).bits

/-- A command that ends the transaction in progress without a good answer and without jabber: no answer, a gap in the answer, or an
answer that is bad (R159, R160). -/
def unanswered (s : State) (t : Transaction) (c : Instr) : Prop :=
  (c = .responseTimeout ∧ s.ulc.line = .wait) ∨ (c = .answerGapTimeout ∧ s.ulc.line = .answer) ∨
  ∃ chars, c = .answerComplete chars ∧ s.ulc.line = .answer ∧ t.judge chars = .bad

/-- A command that ends a command transaction with ACK (R172). -/
def callAcked (s : State) (cmd : CommandRecord) (c : Instr) : Prop :=
  s.ulc.transaction = some (.command cmd) ∧ s.ulc.line = .answer ∧
  ∃ chars a, c = .answerComplete chars ∧ (Transaction.command cmd).judge chars = .good a ∧ a.kind = 0xA0

/-- A command that ends a command transaction as failed, by NAK, with the cause code 0, or with its last try unanswered, with the cause
code 1 (R172, R201). -/
def callFails (s : State) (cmd : CommandRecord) (c : Instr) (cause : Nat) : Prop :=
  s.ulc.transaction = some (.command cmd) ∧
  ((cause = 0 ∧ s.ulc.line = .answer ∧
      ∃ chars a, c = .answerComplete chars ∧ (Transaction.command cmd).judge chars = .good a ∧ a.kind = 0xA1) ∨
    (cause = 1 ∧ unanswered s (.command cmd) c ∧ s.cfg.cmdRetries ≤ cmd.tries))

/-- A STATUS transaction of a unit, a poll or a call of discovery (R163). -/
def isStatusOf (x : UnitId) (t : Transaction) : Prop := (∃ live, t = .poll x live) ∨ t = .discovery x

/-- The slot at the cursor of the step a RUNNING sequencer runs (R119). -/
def judging (s : State) (n : Fin 48) : Prop := s.seq.state = .running ∧ s.seq.slotAtCursor = some n

end Sys2Proof.Safety
end

