-- ==== Sys2Proof/WellFormed.lean ====
section
/-! DEFINITION. WellFormed.lean: which terms of `Instr` stand for something the part can meet. Every check cites the rule that sets the
bound. `exec` has a meaning for the terms a check refuses too; no statement and no run needs one. -/
namespace Sys2Proof
open Sys2Proof.Machine

/-- A request frame's payload holds at most 240 bytes (R179, R180). -/
def payloadFits (payload : List Byte) : Bool := payload.length ≤ 240

/-- A SLOT_POWER request of the accepted length does not ask for the other row's state: ON is 1 and OFF is 0, and a byte that is
neither may stand in either row (R200, R205). -/
def powerByteIsNot (b : Byte) (payload : List Byte) : Bool :=
  match payload with
  | [_, p] => p != b
  | _ => true

/-- The order of an evaluation window's blocks names each of the five once (R54). -/
def ordersBlocks (order : List WindowBlock) : Bool :=
  order.length == 5 && [WindowBlock.brc, .ldm, .seq, .bmn, .rsv].all (order.contains ·)

/-- A run of port characters whose last one is received in a way that can end a frame as the command's row says; the frame's earlier bytes
may stand in the receive assembly already (R178, R180). -/
def lastReceived (ends : PortReceived → Bool) (chars : List PortChar) : Bool :=
  match chars.getLast? with
  | some c => ends (portReceived c)
  | none => false

/-- A byte is received (R178). -/
def isByte : PortReceived → Bool
  | .byte _ => true
  | .falseStart | .framingError => false

/-- A length byte above 240 is received (R180). -/
def isLongLength : PortReceived → Bool
  | .byte b => 240 < b.toNat
  | .falseStart | .framingError => false

/-- Whether a command is one that the part can meet. -/
def Instr.wellFormed : Instr → Bool
  | .powerOnReset => true
  | .senseFrame _ => true
  | .baselineEnd => true
  | .settleEnd => true
  | .measureEnd => true
  | .releaseSettleEnd => true
  | .testLoadOffOwedPlaced => true
  | .evaluationWindowCompletion order => ordersBlocks order
  | .zeroCrossing _ counter => 1 ≤ counter && counter ≤ 65535   -- R58: the new half-period is 1 to 65,535 µs
  | .lossLimitExpiry _ => true
  | .retryDelayExpiry _ => true
  | .runTimeSecond _ => true
  | .shedSettleExpiry => true
  | .stableTimerExpiry => true
  | .seqJudgeSlot => true
  | .awaitTimerExpiry => true
  | .settleTimerExpiry => true
  | .restoreSettleExpiry => true
  | .leakSample _ => true
  | .isolationDelayExpiry _ => true
  | .lineGrant => true
  | .callEnd => true
  | .responseTimeout => true
  | .answerComplete chars => chars.length ≤ 40   -- R161: the 41st character of an answer is jabber
  | .answerGapTimeout => true
  | .jabberInAnswer _ => true
  | .linkJabber => true
  | .lineIdle => true
  | .pollCycleExpiry => true
  | .passThroughNotSent => true
  | .hostSilent => true
  | .commitCompletion _ => true
  | .requestCrcDiscard chars => lastReceived isByte chars   -- R180: the byte that completes the count
  | .requestOverrun => true
  | .requestGapAbandon _ => true
  | .replySent => true
  | .unknownKind kind _ payload => (kind == 0 || 0x26 < kind.toNat) && payloadFits payload   -- R182, R205
  | .identify _ payload => payloadFits payload
  | .getStatus _ payload => payloadFits payload
  | .readEstimate _ payload => payloadFits payload
  | .setLevel _ payload => payloadFits payload
  | .readSetting _ payload => payloadFits payload
  | .writeSetting _ payload => payloadFits payload
  | .commitSettings _ payload => payloadFits payload
  | .revertSettings _ payload => payloadFits payload
  | .restart _ payload => payloadFits payload
  | .readSlot _ payload => payloadFits payload
  | .writeSlot _ payload => payloadFits payload
  | .slotPowerOn _ payload => payloadFits payload && powerByteIsNot 0 payload
  | .slotPowerOff _ payload => payloadFits payload && powerByteIsNot 1 payload
  | .slotClear _ payload => payloadFits payload
  | .readZones _ payload => payloadFits payload
  | .zoneRelease _ payload => payloadFits payload
  | .planBegin _ payload => payloadFits payload
  | .planSteps _ payload => payloadFits payload
  | .planStart _ payload => payloadFits payload
  | .planPause _ payload => payloadFits payload
  | .planResume _ payload => payloadFits payload
  | .planCancel _ payload => payloadFits payload
  | .readPlan _ payload => payloadFits payload
  | .readRectifier _ payload => payloadFits payload
  | .rectifierEnable _ payload => payloadFits payload
  | .rectifierDisable _ payload => payloadFits payload
  | .rectifierClear _ payload => payloadFits payload
  | .readBattery _ payload => payloadFits payload
  | .startImpedanceTest _ payload => payloadFits payload
  | .readLeak _ payload => payloadFits payload
  | .writeLeak _ payload => payloadFits payload
  | .leakAck _ payload => payloadFits payload
  | .readPollTable _ payload => payloadFits payload
  | .writePollTable _ payload => payloadFits payload
  | .readUnit _ payload => payloadFits payload
  | .unitUnquiet _ payload => payloadFits payload
  | .linkReset _ payload => payloadFits payload
  | .passThrough _ payload => payloadFits payload
  | .fetchNotices _ payload => payloadFits payload
  | .answerFirstCharacter => true
  | .characterOutsideTransaction => true
  | .requestFramingError chars => lastReceived (· == .framingError) chars   -- R180
  | .requestLengthAbandon chars => lastReceived isLongLength chars   -- R180

end Sys2Proof
end

