-- ==== Sys2Proof/Certificates/Slice0/Obligations.lean ====
section
/-! DEFINITION. Certificates/Slice0/Obligations.lean: the statements about the RPS-648 model. Each docstring names the rules a
statement formalises; where one rests on a choice of the model, it names the log entry. -/
open Sys2Proof Sys2Proof.Machine Sys2Proof.Safety

/-! ## The queue, reset and the invariants -/

/-- A step runs the command at the front of the queue, with the queue's rest behind it; on an empty queue it idles (log entry 1:
the model's choice, the clock is the SENSE_FRAME command). -/
def Obligations.StepRunsFrontCommand : Prop :=
  (∀ (c : Instr) (rest : List Instr) (s : State),
    step { s with pending := c :: rest } = exec c { s with pending := rest }) ∧
  ∀ s : State, s.pending = [] → step s = .next s

/-- Every command has an effect or is answered, in every state, and leaves the queue of waiting commands alone; part time moves
with SENSE_FRAME and POWER_ON_RESET alone (R2, R52; log entry 1). -/
def Obligations.EveryCommandCompletes : Prop :=
  ∀ (c : Instr) (s : State), ∃ t, exec c s = .next t ∧ t.pending = s.pending ∧
    ((∃ raw, c = .senseFrame raw) ∨ c = .powerOnReset ∨ t.partTime = s.partTime)

/-- Power-on reset: the image is kept, the settings come from it or from the defaults, and every block starts at the values of its
reset rule. The SFE's latest frame, which no rule gives a value before the first frame, is left out (log entry 32). Three items are
the model's own: the part of a millisecond a capture counter has accounted for (log entry 9), the P_avail the Bridge Controller last read (log
entry 36) and the mark that STAGED holds the start-up plan (log entry 24). -/
def Obligations.PowerOnResetStartsAnew : Prop :=
  ∀ s : State, ∃ t, exec .powerOnReset s = .next t ∧ t.pending = s.pending ∧ t.partTime = 0 ∧
    (∀ c, s.lvs.image = some c →
      t.lvs = ⟨.configure, c, some c, false, none, true, false, false⟩ ∧ t.nq = ⟨[], false, false⟩) ∧
    (s.lvs.image = none → t.lvs = ⟨.configure, .default, none, true, none, true, true, false⟩ ∧
      t.nq = ⟨[⟨0, .settingsDefaulted, 0, []⟩], false, true⟩) ∧
    t.mgp = ⟨[], .free, none, [], 0, false, if t.cfg.hostSilenceS = 0 then none else some (t.cfg.hostSilenceS * 1000), false,
      false, t.cfg.mgmtBitRate, false⟩ ∧
    t.sfe.window = ⟨0, 0, 0, 0, Vector.replicate 4 0, Vector.replicate 4 0, Vector.replicate 4 0, false, .empty⟩ ∧
    t.sfe.latest = ⟨0, 0, 0, Vector.replicate 4 0, Vector.replicate 4 0, Vector.replicate 4 0, 0, 0, .empty⟩ ∧
    t.acm = ⟨Vector.replicate 3 ⟨.lost, 0, 0, none, none, 0, 0, false⟩, .lost⟩ ∧
    t.rsv = ⟨Vector.replicate 6 ⟨.absent, 0, false, none, none, 0, 0, none, 0⟩, 0⟩ ∧
    t.bmn = ⟨Vector.replicate 4
        ⟨false, 0, 0, t.cfg.defaultR, none, .absent, none, false, false, false, false, 0, 0, none⟩,
      ⟨none, .idle, 0, 0, 0, none, none, none, false, false⟩, .grid⟩ ∧
    t.brc = ⟨.grid, 0, none, none, false, false, none, none, none, 0⟩ ∧
    t.ldm = ⟨Vector.replicate 48 ⟨.vacant, none, false, none, none, none, 0⟩,
      Vector.replicate 8 ⟨false, false, none, false⟩, [], 0, 0⟩ ∧
    t.seq = ⟨none, t.seq.staged, false, decide (t.seq.staged ≠ .empty), .idle, 0, 0, false, [], none, none, none, none, false,
      false, none⟩ ∧
    (∀ p, t.cfg.autoStartPlan = true → t.cfg.storedPlan = .ready p → t.seq.staged = .ready p) ∧
    ((t.cfg.autoStartPlan = false ∨ ∀ p, t.cfg.storedPlan ≠ .ready p) → t.seq.staged = .empty) ∧
    (∀ c, t.channel c =
      ⟨if (t.leakCfg c).enabled then .dry else .disabled, none, 0, false, none, 0, 0, some 0⟩) ∧
    t.lkm.wetView = Vector.replicate 8 false ∧ t.lkm.delay = Vector.replicate 8 none ∧
    (∀ x, t.ulc.units.get x = ⟨.unknown, none, 0, none⟩) ∧
    t.ulc = ⟨.guarded, none, [], none, t.ulc.units, none, false, 0, false, some 0, none, none, [], [], [], none, false, 0,
      t.cfg.linkDivN, t.cfg.linkDivK, false⟩

/-- The invariants hold right after reset. Reset is a part whose image is invalid (log entry 2, the model's choice). -/
def Obligations.InvariantsHoldAtReset : Prop :=
  NoticesOk State.reset ∧ ChargeOk State.reset ∧ PresentOk State.reset ∧ TestOk State.reset ∧ RetryOk State.reset ∧
  CapacityOk State.reset ∧ CommittedOk State.reset ∧ RampOk State.reset ∧ RestoreOk State.reset ∧ ZonesOk State.reset ∧
  WetOk State.reset ∧ ChannelsOk State.reset ∧
  QueuesOk State.reset ∧ SettingsOk State.reset ∧ ShelfOk State.reset ∧ SequencerOk State.reset ∧ LinkOk State.reset ∧
  PollOk State.reset ∧ PortOk State.reset

/-- R188: every step keeps the Notice Queue at 32 notices at most, with ATTN# asserted exactly while it is not empty. -/
def Obligations.NoticesStayOk : Prop := ∀ s, NoticesOk s → ∃ t, step s = .next t ∧ NoticesOk t

/-- Every step keeps the invariants of the supply: the shelf AC state is the one the three phase states give (R64); each module's Q
stands within 0 to Cap and its residue within ±35,999 (R73); the slot of a unit that is not PRESENT is VACANT, and a rectifier or a battery
module is ABSENT exactly while its unit is not PRESENT (R6, R34, R69, R164); a module is TESTING exactly while a test runs on it, in GRID
with the shelf AC state GOOD (R78, R82, R87); and the retry counts stand within RetryLimit, a LOCKED_OUT module's at it, with every contribution the one
its state gives and P_avail the sum R46 forms (R40, R41, R46). -/
def Obligations.SupplyStaysOk : Prop :=
  ∀ s, ∃ t, step s = .next t ∧ (ShelfOk s → ShelfOk t) ∧ (ChargeOk s → ChargeOk t) ∧
    (PresentOk s → PresentOk t) ∧ (PresentOk s → TestOk s → TestOk t) ∧
    (RetryOk s → CapacityOk s → RetryOk t ∧ CapacityOk t)

/-- Every step keeps the invariants of the Load Manager: P_comm is the sum of the powered slots' allocations and RampLevel stands
within RampCeilingW (R10, R11), and each slot of the Restore List is SHED with reason BRIDGING or DEPLETED, and none stands in it
twice (R27, R28). -/
def Obligations.LoadManagerStaysOk : Prop :=
  ∀ s, ∃ t, step s = .next t ∧ (CommittedOk s → RampOk s → CommittedOk t ∧ RampOk t) ∧ (RestoreOk s → RestoreOk t)

/-- Every step keeps the invariants of the zones and the leak channels: each zone shed line follows its zone's isolated field, and the
slots of an isolated zone are VACANT or ISOLATED, so that none of them is ENERGIZING or ON (R22, R26); each zone's wet field is what
its channels make it and its isolation delay the Leak Monitor's timer (R21, R149, R151); and a channel is DISABLED exactly when it
is not enabled (R138). -/
def Obligations.ZonesStayOk : Prop :=
  ∀ s, ∃ t, step s = .next t ∧ (ZonesOk s → ZonesOk t) ∧ (WetOk s → WetOk t) ∧ (ChannelsOk s → ChannelsOk t)

/-- R169, R170: every step keeps Q1 within 64 records, the one in flight from it included, Q0 within one POWER OFF a slot, which makes 48,
one POWER call at most queued for a slot, each call in its own queue, and no call with more than 3 tries. The settings stand within
their ranges, CmdRetries within 0 to 3 among them. -/
def Obligations.QueuesStayOk : Prop := ∀ s, QueuesOk s → SettingsOk s → ∃ t, step s = .next t ∧ QueuesOk t

/-- R3, R4, R114, R115, R138, R139, R165, R194: every step keeps the working settings, the stored image and a commit's copy within the ranges
of their tables: the numbered settings, those of each slot and each leak channel, the length of the Poll Table and the stored plan. -/
def Obligations.SettingsStayOk : Prop := ∀ s, SettingsOk s → ∃ t, step s = .next t ∧ SettingsOk t

/-- R115, R119, R132: every step keeps a sequencer that holds a position with an ACTIVE plan, its step index below the step count, its
cursor within the step's slots and its admitted set among them, keeps one without a position with neither, keeps a READY buffer at 1
to 64 written steps, and keeps the restore run, paused-from and the hold reason to the states they belong to. The settings stand within
their ranges, the stored plan among them, which power-on reset may stage. -/
def Obligations.SequencerStaysOk : Prop := ∀ s, SequencerOk s → SettingsOk s → ∃ t, step s = .next t ∧ SequencerOk t

/-- R155, R159, R167: every step keeps the Split Stack at 8 ranges at most, which with the current range lie within 0x10 to 0x4F,
pairwise disjoint, keeps a transaction exactly while the line is in CALL, WAIT or ANSWER and the response timer in WAIT alone, and
drives the bits of the transaction's call in CALL alone. R164 to R167, R176: every step keeps the poll at work that is due, what needs no transaction
being passed over at once, and a live poll or round transaction that of the entry at the cursor. R178, R180, R183: every step keeps the bits the Management Port sends those of the
reply in its buffer, the CRC-discard count at 65,535 at most, and the bytes in the receive assembly those of an unfinished frame. -/
def Obligations.LinkStaysOk : Prop :=
  (∀ s, LinkOk s → ∃ t, step s = .next t ∧ LinkOk t) ∧ (∀ s, PollOk s → ∃ t, step s = .next t ∧ PollOk t) ∧
  ∀ s, PortOk s → ∃ t, step s = .next t ∧ PortOk t

/-- R14: a slot enters ENERGIZING only where an admission can be granted: the level is SUPERVISE with discovery ended, the Bridge
Controller is in GRID, and the slot's zone is neither wet nor isolated. -/
def Obligations.EnergizedOnlyByAdmission : Prop :=
  ∀ (s t : State) (n : Fin 48), step s = .next t → (s.slot n).state ≠ .energizing → (t.slot n).state = .energizing →
    t.lvs.level = .supervise ∧ t.lvs.startingUp = false ∧ t.brc.state = .grid ∧
      (t.zone (t.zoneOf n)).isolated = false ∧ (t.zone (t.zoneOf n)).wet = false

/-- R25, R26, R180, R181: an isolated zone leaves isolation by power-on reset or by a ZONE_RELEASE request alone, with the zone dry: one
taken as it arrives, one taken out of the pending-request buffer when a reply has been sent, or one whose frame the characters of a
gap, a framing error, a length or a CRC discard complete (log entry 18: a good frame that such characters complete is the request it carries). -/
def Obligations.IsolationEndsByReleaseAlone : Prop :=
  ∀ (s t : State) (z : Fin 8), step s = .next t → (s.zone z).isolated = true → (t.zone z).isolated = false →
    ∃ c rest, s.pending = c :: rest ∧
      (c = .powerOnReset ∨
        (s.zone z).wet = false ∧ ∃ r : Request, r.kind = 0x0F ∧ r.payload = [BitVec.ofNat 8 z] ∧
          (requestOf c = some r ∨ (c = .replySent ∧ s.mgp.pending = .waiting r) ∨
            ∃ chars, (c = .requestGapAbandon chars ∨ c = .requestFramingError chars ∨ c = .requestLengthAbandon chars ∨
                c = .requestCrcDiscard chars) ∧
              AssemblyEnd.frame r ∈ (assemble s.mgp.assembly chars).2))

/-! ## Sensing and the AC line -/

/-- R50 to R53, R57: a sense frame passes 1 ms of part time and adds its limited readings to the window in progress, which is a new one
when a hundred frames had completed the last (log entry 7: the completion is a command of its own, taken before the next frame at
the latest); the settings and the level are unchanged. A window of a hundred frames completes and forms its figures: P_avg rounded
up, the other means truncated, the signed ones toward zero, the total discharge mean over the positive currents, and the window
count. A window short of a hundred frames does not complete. -/
def Obligations.WindowFillsAndCompletes : Prop :=
  (∀ (raw : RawFrame) (s : State), ∃ t, exec (.senseFrame raw) s = .next t ∧ t.partTime = s.partTime + 1 ∧
    t.sfe.frame = limitFrame raw ∧
    t.sfe.window = (if 100 ≤ s.sfe.window.count then Window.empty else s.sfe.window).add (limitFrame raw) ∧
    t.sfe.latest = (if 100 ≤ s.sfe.window.count then s.sfe.window.figures s.sfe.latest.windowCount else s.sfe.latest) ∧
    t.lvs = s.lvs) ∧
  ∀ (order : List WindowBlock) (s : State),
    (s.sfe.window.count < 100 → exec (.evaluationWindowCompletion order) s = .next s) ∧
    (100 ≤ s.sfe.window.count → ∃ t, exec (.evaluationWindowCompletion order) s = .next t ∧
      t.sfe.window = .empty ∧
      t.sfe.latest.pAvg = (s.sfe.window.powerSum + 99) / 100 ∧
      t.sfe.latest.vbusMean = s.sfe.window.vbusSum / 100 ∧ t.sfe.latest.iloadMean = s.sfe.window.iloadSum / 100 ∧
      (∀ i : Fin 4, t.sfe.latest.vMean[i] = s.sfe.window.vbmSum[i] / 100 ∧
        t.sfe.latest.iMean[i] = s.sfe.window.ibmSum[i].tdiv 100 ∧ t.sfe.latest.tMean[i] = s.sfe.window.tbmSum[i].tdiv 100) ∧
      (t.sfe.latest.discharge : Int) =
        ((List.finRange 4).map fun i => max (0 : Int) (s.sfe.window.ibmSum[i].tdiv 100)).sum ∧
      t.sfe.latest.windowCount = s.sfe.latest.windowCount + 1 ∧ t.sfe.latest.saturated = s.sfe.window.saturated)

/-- R51: the frame power, from the operands already limited by R50, truncated, held at 65,535 W and then marked saturated; with the
four examples of the rule's table. -/
def Obligations.FramePower : Prop :=
  (∀ raw : RawFrame, (limitFrame raw).vbus ≤ 65535 ∧ (limitFrame raw).iload ≤ 32767 ∧
    (limitFrame raw).power = min 65535 ((limitFrame raw).vbus * (limitFrame raw).iload / 1000) ∧
    ((limitFrame raw).saturated.power = true ↔ 65535 < (limitFrame raw).vbus * (limitFrame raw).iload / 1000)) ∧
  ∀ raw : RawFrame,
    (raw.vbus = 5310 → raw.iload = 3390 → (limitFrame raw).power = 18000) ∧
    (raw.vbus = 5301 → raw.iload = 3400 → (limitFrame raw).power = 18023) ∧
    (raw.vbus = 5200 → raw.iload = 0 → (limitFrame raw).power = 0) ∧
    (raw.vbus = 5400 → raw.iload = 14000 → (limitFrame raw).power = 65535 ∧ (limitFrame raw).saturated.power = true)

/-- R72: charge counting at a sense frame, for every module that is not ABSENT, in its four steps; a saturated current is counted at
its held value, and the window carries its saturation. The residues and charges stand
within the limits of R73 before the frame, and no end of an earlier frame waits to be taken. -/
def Obligations.FrameCountsCharge : Prop :=
  ∀ (raw : RawFrame) (s : State), nothingDue s → ChargeOk s → ∃ t, exec (.senseFrame raw) s = .next t ∧
    ∀ i : Fin 4,
      let b := s.batt i
      let r := b.r + (limitFrame raw).ibm[i]
      (-68767 ≤ r ∧ r ≤ 68766) ∧
      ((limitFrame raw).saturated.ibm[i] = true → t.sfe.window.saturated.ibm[i] = true) ∧
      if b.state = .absent then (t.batt i).q = b.q ∧ (t.batt i).r = b.r
      else if 36000 ≤ r then (t.batt i).q = b.q - 1 ∧ (t.batt i).r = if b.q = 0 then 0 else r - 36000
      else if r ≤ -36000 then
        (t.batt i).q = min (b.q + 1) s.cfg.batteryCapacity[i] ∧
          (t.batt i).r = if b.q = s.cfg.batteryCapacity[i] then 0 else r + 36000
      else (t.batt i).q = b.q ∧ (t.batt i).r = r

/-- R11, R54, R93, R94: a window completion in GRID, in whatever order the blocks take it. With the load within P_avail (or AC not yet
seen), the discharge within DischargeThresh and no held admission to take up, it lets RampLevel decay, stores the coverage estimate for
P_avg, and changes nothing else of the Load Manager, the sequencer or the bridge state. R126, R133: a held admission whose reason can have
cleared is judged again, in the state in which the order has the sequencer take the window: the slot at the cursor is admitted, held for,
or passed by; and a HELD restore run whose reason can have cleared puts the head of the Restore List to admission, or ends. With P_avg above P_avail and AC seen, or the discharge above
DischargeThresh, it enters BRIDGING: the elapsed time starts at 0, the shed-settle timer stops, the sequencer's bridge hold is
set, every POWER ON still queued is withdrawn, and the ENERGIZING slot of each goes to OFF, or to VACANT with allocation 0 (R20,
R127). -/
def Obligations.WindowInGrid : Prop :=
  ∀ (order : List WindowBlock) (s : State), 100 ≤ s.sfe.window.count → CapacityOk s → s.brc.state = .grid →
    let quiet := (s.brc.acSeen = true → (s.sfe.window.powerSum + 99) / 100 ≤ s.rsv.pAvail) ∧
      (s.sfe.window.figures s.sfe.latest.windowCount).discharge ≤ s.cfg.dischargeThresh
    let f := sequencerSees order s
    (quiet → nothingHeld s →
      ∃ t, exec (.evaluationWindowCompletion order) s = .next t ∧
        t.ldm = { s.ldm with rampLevel := s.ldm.rampLevel - s.cfg.rampDecayW } ∧ t.seq = s.seq ∧ t.brc.state = .grid ∧
        ∃ e, t.brc.estimate = some e ∧ e.kind = .coverage ∧ e.load = min 65535 ((s.sfe.window.powerSum + 99) / 100) ∧
          e.pBatt = e.load) ∧
    (∀ h n, quiet → ordersBlocks order = true → s.seq.state = .held → s.seq.holdReason = some h → mayClear s h →
      s.seq.slotAtCursor = some n →
      let asked := ((s.slot n).state = .off ∨ (s.slot n).state = .shed) ∧ (s.zone (s.zoneOf n)).wet = false
      ∃ t, exec (.evaluationWindowCompletion order) s = .next t ∧ t.brc.state = .grid ∧ slotsKeptBut [n] s t ∧
        (asked → admissionCheck .plan n f = none → (t.slot n).state = .energizing ∧ (n, false) ∈ t.seq.admitted ∧
          t.seq.cursor = s.seq.cursor + 1 ∧ t.seq.holdReason = none) ∧
        (∀ e g, asked → admissionCheck .plan n f = some e → e.holdReason = some g → t.ldm.slots = s.ldm.slots ∧
          t.seq = { s.seq with holdReason := some g }) ∧
        ((¬ asked ∨ ∃ e, admissionCheck .plan n f = some e ∧ e.holdReason = none) → t.ldm.slots = s.ldm.slots ∧
          t.seq.cursor = s.seq.cursor + 1 ∧ t.seq.admitted = s.seq.admitted ∧ t.seq.holdReason = none)) ∧
    (∀ r e, quiet → ordersBlocks order = true → s.seq.state = .restoring → s.seq.restore = some r → r.phase = .held →
      r.hold = some e → restoreMayClear s e →
      ∃ t, exec (.evaluationWindowCompletion order) s = .next t ∧ t.brc.state = .grid ∧ RestoreAdmits r.kept r.count f s t ∧
        (s.ldm.restoreList = [] → t.seq.restore = none ∧ t.ldm.slots = s.ldm.slots ∧
          (r.kept = none → s.seq.startPending = false → t.seq.state = .idle))) ∧
    (((s.brc.acSeen = true ∧ s.rsv.pAvail < (s.sfe.window.powerSum + 99) / 100) ∨
        s.cfg.dischargeThresh < (s.sfe.window.figures s.sfe.latest.windowCount).discharge) →
      ∃ t, exec (.evaluationWindowCompletion order) s = .next t ∧
        t.brc.state = .bridging ∧ t.brc.elapsedMs = 0 ∧ t.brc.shedSettle = none ∧ t.brc.shortfallReported = false ∧
        t.seq.bridgeHold = true ∧
        ∀ n, t.ulc.q1.any (isPowerOnFor n) = false ∧
          (s.ulc.q1.any (isPowerOnFor n) = true → (s.slot n).state = .energizing →
            (t.slot n).state = if (s.slotCfg n).allocation = 0 then .vacant else .off))

/-- R17 to R19, R95 to R97: the budget shed of a window completion in BRIDGING, in whatever order the five blocks take it. Where input is not
sufficient and the rack is not DEPLETED, a shed amount with the shed-settle timer stopped is asked of the Load Manager: the slots taken are
candidates of reason BRIDGING, in their order, until their contributions reach the amount or no candidate is left; each goes to
SHED and to the head of the Restore List, and no other slot changes. A slot shed from ON gets one POWER OFF in Q0; one shed with its POWER ON in
Q1 loses that call, its charged inrush goes back and no POWER OFF is placed, a POWER ON that was sent and has returned to Q1 counting as one still
queued (the model's choice, log entry 35). The shed-settle timer starts and the last shed is kept with its
shortfall. With the timer running, or with no shed amount, no slot changes. The estimate is that of the state in which the order
has the Bridge Controller take the window. -/
def Obligations.BudgetShed : Prop :=
  ∀ (order : List WindowBlock) (s : State), ordersBlocks order = true → 100 ≤ s.sfe.window.count → CapacityOk s →
    QueuesOk s → s.brc.state = .bridging →
    let f := bridgeSees order s
    f.inputSufficient = false → (f.countedModules ≠ 0 ∨ f.anyDepleted = false ∨ (bridgingEstimate f).pBatt = 0) →
    (∀ a, (bridgingEstimate f).shedAmount = some a → s.brc.shedSettle = none →
      ∃ t taken, exec (.evaluationWindowCompletion order) s = .next t ∧ ShedTakes .bridging a s t taken ∧ ShedCalls s t taken ∧
        t.brc.state = .bridging ∧ t.brc.shedSettle = some s.cfg.shedSettleMs ∧
        t.brc.lastShed =
          some ⟨.bridging, a, (taken.map (contributionOf s)).sum, a - (taken.map (contributionOf s)).sum⟩) ∧
    ((bridgingEstimate f).shedAmount = none ∨ s.brc.shedSettle ≠ none →
      ∃ t, exec (.evaluationWindowCompletion order) s = .next t ∧ t.ldm.slots = s.ldm.slots ∧
        t.ldm.restoreList = s.ldm.restoreList ∧ t.brc.state = .bridging ∧ t.brc.shedSettle = s.brc.shedSettle ∧
        t.brc.lastShed = s.brc.lastShed)

/-- R104 to R107: the limits of the hold-up estimate's arithmetic, with the settings in range: the effective energy is at most the
total, the ride time at most 65,535 s and 0 s without a counted module; a SAG_LIMITED module gives no energy; the shed target is
at least P_avail, and a shed amount is what the load exceeds it by. -/
def Obligations.EstimateLimits : Prop :=
  ∀ (s : State) (load : Nat), SettingsOk s →
    (∀ e, (e = coverageEstimate s load ∨ e = bridgingEstimate s) →
      e.eEff ≤ e.eTotal ∧ e.tRide ≤ 65535 ∧ (e.pBatt = 0 → e.tRide = 65535) ∧
      (e.n = 0 → e.eTotal = 0 ∧ (0 < e.pBatt → e.tRide = 0)) ∧
      ∀ (i : Fin 4) (m : ModuleEstimate), e.positions[i] = some m →
        (s.batt i).state.counted = true ∧ m.current ≤ 65535 ∧ (m.sagLimited = true → m.energy = 0) ∧
        (m.voc ≤ 0 → m.current = 0 ∧ m.vs = 0 ∧ m.sagLimited = true) ∧ (m.q ≤ m.qfloor → m.energy = 0) ∧
        (e.pBatt = 0 → m.current = 0 ∧ (m.vs : Int) = max 0 m.voc)) ∧
    (coverageEstimate s load).pTarget = none ∧ (coverageEstimate s load).shedAmount = none ∧
    (∀ target, (bridgingEstimate s).pTarget = some target → s.rsv.pAvail ≤ target ∧ 0 < s.tNeed) ∧
    (s.tNeed = 0 → (bridgingEstimate s).pTarget = none ∧ (bridgingEstimate s).shedAmount = none) ∧
    ∀ a, (bridgingEstimate s).shedAmount = some a →
      1 ≤ a ∧ a ≤ 65535 ∧ ∃ target, (bridgingEstimate s).pTarget = some target ∧ a + target = min 65535 s.sfe.latest.pAvg

/-- R58, R60, R61: a zero crossing takes the capture counter's value, the one the command says or the one the counter holds, whichever is
larger, at most 65,535, as the new half-period, restarts the counter and is judged by the table of R60; the first crossing since power-on
reset only restarts the counter. A value at or above the loss limit is one the loss expired at first (log entry 9, deduced: an expiry that
no command has reported yet is taken with the crossing). A loss expiry takes the phase to LOST. The other phases keep
their records. -/
def Obligations.PhaseEvents : Prop :=
  ∀ (p : Fin 3) (h : Nat) (s : State), 1 ≤ h → h ≤ 65535 →
    let v := min 65535 (max h (s.phase p).counter)
    let bad := (s.phase p).bad
    let stable := (s.phase p).stable
    (v < s.cfg.lossLimit → ∃ t, exec (.zeroCrossing p h) s = .next t ∧ (∀ o, o ≠ p → t.phase o = s.phase o) ∧
      ((s.phase p).crossed = false →
        t.phase p = { s.phase p with counter := 0, crossed := true, ahead := (t.phase p).ahead }) ∧
      ((s.phase p).crossed = true →
        (t.phase p).counter = 0 ∧ (t.phase p).newest = some v ∧ (t.phase p).previous = (s.phase p).newest ∧
        ((t.phase p).state, (t.phase p).bad, (t.phase p).stable) =
          (if (s.phase p).state = .present then
            if s.cfg.validHalfPeriod v then (.present, 0, stable)
            else if bad + 1 < 3 then (.present, bad + 1, stable) else (.outOfTolerance, 0, 0)
          else
            if s.cfg.validHalfPeriod v then
              if stable + 1 < s.cfg.phaseStableCount then ((s.phase p).state, bad, stable + 1) else (.present, 0, 0)
            else ((s.phase p).state, bad, 0)))) ∧
    (s.cfg.lossLimit ≤ v → s.cfg.halfPeriodTolerancePct ≤ 20 → ∃ t, exec (.zeroCrossing p h) s = .next t ∧
      (∀ o, o ≠ p → t.phase o = s.phase o) ∧ (t.phase p).state = .lost ∧ (t.phase p).stable = 0 ∧
      (t.phase p).bad = (if (s.phase p).state = .lost then bad else 0) ∧
      (t.phase p).counter = 0 ∧ (t.phase p).crossed = true ∧
      (t.phase p).newest = if (s.phase p).crossed then some v else (s.phase p).newest) ∧
    ∃ t, exec (.lossLimitExpiry p) s = .next t ∧ (∀ o, o ≠ p → t.phase o = s.phase o) ∧
      (t.phase p).state = .lost ∧ (t.phase p).stable = 0 ∧ (t.phase p).newest = (s.phase p).newest ∧
      (t.phase p).bad = (if (s.phase p).state = .lost then bad else 0) ∧
      (t.phase p).counter = min 65535 (max s.cfg.lossLimit (s.phase p).counter)

/-- R38, R60, R61, R64, R76, R77, R87, R93, R94, R98: the loss of the last PRESENT phase turns the shelf AC state to LOST and takes every
ONLINE, DERATED or STANDBY module on that phase to INPUT_LOST. In GRID it enters BRIDGING at the same event: the elapsed time starts, the
sequencer is held, every ONLINE battery module at its reserve or with its cutoff flag is marked DEPLETED, and a running impedance test is
aborted with cause BRIDGE. In RECOVERING it returns to BRIDGING with the stable timer stopped and the elapsed time kept. -/
def Obligations.LossOfInputBridges : Prop :=
  ∀ (p : Fin 3) (s : State), (s.phase p).state = .present → (∀ o, o ≠ p → (s.phase o).state ≠ .present) →
    s.acm.shelf = .partialInput → (s.brc.state = .grid ∨ s.brc.state = .recovering) →
    ∃ t, exec (.lossLimitExpiry p) s = .next t ∧ t.acm.shelf = .lost ∧ t.brc.state = .bridging ∧ t.bmn.lastBridge = .bridging ∧
      (s.brc.state = .grid → t.brc.elapsedMs = 0 ∧ t.brc.shedSettle = none ∧ t.seq.bridgeHold = true ∧
        ∀ i, s.bmn.test.module = some i → s.bmn.test.phase.running = true →
          (t.batt i).latest = some ⟨.aborted, some .bridge, none, none⟩ ∧ t.bmn.test.pending = none) ∧
      (s.brc.state = .recovering → t.brc.elapsedMs = s.brc.elapsedMs ∧ t.brc.stable = none ∧ t.seq = s.seq) ∧
      (∀ i, (s.batt i).state = .online → (t.batt i).state =
        if (s.batt i).q ≤ s.cfg.batteryCapacity[i] * s.cfg.reservePct / 100 ∨ (s.batt i).cutoff = true then .depleted
        else .online) ∧
      ∀ k, s.cfg.rectifierFeed[k] = p →
        (s.rect k).state = .online ∨ (s.rect k).state = .derated ∨ (s.rect k).state = .standby →
          (t.rect k).state = .inputLost ∧ (t.rect k).runTime = 0 ∧ (t.rect k).contribution = 0

/-! ## Rectifiers and batteries -/

/-- R39, R41: the retry-delay timer's expiry in DELAY counts a retry and queues its ENABLE, or owes it where the feed phase is not
PRESENT or Q1 has no room, or locks the module out where its count has reached RetryLimit; in TRIAL the retry has failed. A
second in ONLINE or DERATED raises the run-time, and a run-time of RetryWindowS or more puts the count at 0. That an expiry with no
timer running and a second in any other state change nothing is the model's (log entry 6), as are the second as a command of its own (log
entry 29) and the mark of a retry's ENABLE in its record (log entry 28). -/
def Obligations.RetryEvents : Prop :=
  ∀ (k : Fin 6) (s : State),
    ((s.rect k).retryTimer = none → exec (.retryDelayExpiry k) s = .next s) ∧
    ((s.rect k).retryTimer ≠ none → (s.rect k).state = .faulted → (s.rect k).retryPhase = some .delay →
      ∃ t, exec (.retryDelayExpiry k) s = .next t ∧ (t.rect k).retryTimer = none ∧
        (if s.cfg.retryLimit ≤ (s.rect k).retryCount then
          (t.rect k).state = .lockedOut ∧ (t.rect k).retryPhase = none ∧ (t.rect k).retryCount = (s.rect k).retryCount
        else (t.rect k).state = .faulted ∧ (t.rect k).retryCount = (s.rect k).retryCount + 1 ∧
          if s.fed k = true ∧ s.roomInQ1 = true then
            (t.rect k).retryPhase = some .enabling ∧
              t.ulc.q1 = (s.ulc.q1.filter fun r => !isModuleCallFor k r) ++ [⟨.rectifier k, .enable, none, .rsv, 0, true⟩]
          else (t.rect k).retryPhase = some .due ∧ t.ulc = s.ulc)) ∧
    ((s.rect k).retryTimer ≠ none → (s.rect k).state = .faulted → (s.rect k).retryPhase = some .trial →
      ∃ t, exec (.retryDelayExpiry k) s = .next t ∧ (t.rect k).retryCount = (s.rect k).retryCount ∧ t.ulc = s.ulc ∧
        if (s.rect k).retryCount < s.cfg.retryLimit then
          (t.rect k).state = .faulted ∧ (t.rect k).retryPhase = some .delay ∧
            (t.rect k).retryTimer = some s.cfg.retryDelayMs
        else (t.rect k).state = .lockedOut ∧ (t.rect k).retryPhase = none ∧ (t.rect k).retryTimer = none) ∧
    ((s.rect k).state ≠ .online → (s.rect k).state ≠ .derated → exec (.runTimeSecond k) s = .next s) ∧
    ((s.rect k).state = .online ∨ (s.rect k).state = .derated →
      ∃ t, exec (.runTimeSecond k) s = .next t ∧ (t.rect k).runTime = min 65535 ((s.rect k).runTime + 1) ∧
        (t.rect k).retryCount =
          (if s.cfg.retryWindowS ≤ min 65535 ((s.rect k).runTime + 1) then 0 else (s.rect k).retryCount) ∧
        (t.rect k).state = (s.rect k).state ∧ changesOnly [.rsv] s t)

/-- R35 to R37, R39, R42: what a good STATUS answer of a rectifier does to its record, by the answer's class while the feed phase is PRESENT,
and to an ABSENT module alone while it is not. An ON answer in FAULTED ends the retry and withdraws its queued ENABLE; an OFF answer that takes
the module to STANDBY places one ENABLE, the wake call, where Q1 has room and none for the module is queued; no other answer changes Q1. No
other module's record changes, but that its contribution is formed again from its state (R46). -/
def Obligations.RectifierAnswered : Prop :=
  ∀ (s : State) (k : Fin 6) (chars : List LineChar) (flags code derate : Byte),
    polled s (.rectifier k) chars 0x81 [flags, code, derate] →
    ∃ t, exec (.answerComplete chars) s = .next t ∧ t.ulc.line = .guarded ∧ t.ulc.transaction = none ∧
      (t.rect k).derate = min 16 derate.toNat ∧
      (t.rect k).lastFault = (if flags.getLsbD 1 then some code else (s.rect k).lastFault) ∧
      (∀ j, j ≠ k → t.rect j = { s.rect j with
        contribution := contributionFor s.cfg.rectifierRating[j] (s.rect j).state (s.rect j).derate }) ∧
      (let cls := RectifierAnswer.cls ⟨flags.getLsbD 0, flags.getLsbD 1, code, derate.toNat⟩ (s.rect k).adminDisabled
        let sleeps := (s.rect k).state ≠ .faulted ∧ (s.rect k).state ≠ .lockedOut ∧ (s.rect k).state ≠ .standby
        t.ulc.q1 =
          if s.fed k = true ∧ (s.rect k).state = .faulted ∧ cls = .on then s.ulc.q1.filter fun r => !isRetryEnableFor k r
          else if s.fed k = true ∧ sleeps ∧ cls = .off ∧ s.ulc.q1.length < 64 ∧
              ∀ r ∈ s.ulc.q0 ++ s.ulc.q1, ¬(r.kind = .enable ∧ r.target = .rectifier k) then
            (s.ulc.q1.filter fun r => !isModuleCallFor k r) ++ [⟨.rectifier k, .enable, none, .rsv, 0, false⟩]
          else s.ulc.q1) ∧
      (s.fed k = false →
        (t.rect k).state = if (s.rect k).state = .absent then .inputLost else (s.rect k).state) ∧
      (s.fed k = true →
        (t.rect k).state = rectifierAfter (s.rect k) s.cfg.retryLimit (min 16 derate.toNat)
          (RectifierAnswer.cls ⟨flags.getLsbD 0, flags.getLsbD 1, code, derate.toNat⟩ (s.rect k).adminDisabled) ∧
        ((s.rect k).state = .faulted → flags.getLsbD 1 = false → flags.getLsbD 0 = true →
          (t.rect k).retryPhase = none ∧ (t.rect k).retryTimer = none))

/-- R6 to R8: what a good STATUS answer of a slot's unit does to the slot's record: the draw and the unit power, the state by the table
of R7 with the seeding of R6, the unconfirmed field, and the overdraw count, tested in every state but VACANT (log entry 13: the
state after the answer has acted, the model's choice). No other slot changes. -/
def Obligations.SlotAnswered : Prop :=
  ∀ (s : State) (n : Fin 48) (chars : List LineChar) (power hi lo : Byte) (p : UnitPower),
    polled s (.slot n) chars 0x83 [power, hi, lo] → power.toNat = p.ctorIdx →
    ∃ t, exec (.answerComplete chars) s = .next t ∧ t.ulc.line = .guarded ∧ t.ulc.transaction = none ∧
      (t.slot n).draw = some (hi.toNat * 256 + lo.toNat) ∧ (t.slot n).power = some p ∧
      (t.slot n).state =
        slotAfter (s.slotCfg n).allocation (s.zone (s.zoneOf n)).isolated (s.slot n).state p ∧
      (t.slot n).unconfirmed = (if ((s.slot n).state = .shed ∨ (s.slot n).state = .isolated) ∧ p = .off then false
        else (s.slot n).unconfirmed) ∧
      (t.slot n).overdraw =
        (if (t.slot n).state = .vacant then (s.slot n).overdraw
        else if hi.toNat * 256 + lo.toNat ≤ (s.slotCfg n).allocation + (s.slotCfg n).allocation / 10 then 0
        else if (s.slot n).overdraw + 1 < 10 then (s.slot n).overdraw + 1 else 0) ∧
      slotsKeptBut [n] s t ∧ t.ldm.restoreList = s.ldm.restoreList

/-- R71, R75, R77: what a later good STATUS answer of a battery module does to its record: the reported fields, the full correction of Q,
the entry into FAULTED of an ONLINE or DEPLETED module that reports a fault, and the depleted marking an answer with the cutoff
flag brings in BRIDGING. -/
def Obligations.BatteryAnswered : Prop :=
  ∀ (s : State) (i : Fin 4) (chars : List LineChar) (percent flags : Byte),
    polled s (.battery i) chars 0x82 [percent, flags] →
    ∃ t, exec (.answerComplete chars) s = .next t ∧ t.ulc.line = .guarded ∧ t.ulc.transaction = none ∧
      (t.batt i).percent = some (min 100 percent.toNat) ∧ (t.batt i).full = flags.getLsbD 0 ∧
      (t.batt i).cutoff = flags.getLsbD 1 ∧ (t.batt i).reportedFault = flags.getLsbD 2 ∧
      (t.batt i).q = (if flags.getLsbD 0 then s.cfg.batteryCapacity[i] else (s.batt i).q) ∧
      (t.batt i).r = (if flags.getLsbD 0 then 0 else (s.batt i).r) ∧
      ((s.batt i).state = .online ∨ (s.batt i).state = .depleted →
        (t.batt i).state =
          if flags.getLsbD 2 then .faulted
          else if flags.getLsbD 1 = true ∧ s.bmn.lastBridge = .bridging then .depleted
          else (s.batt i).state) ∧
      ((s.batt i).state = .faulted → flags.getLsbD 2 = true ∨ (s.batt i).tempFault = true → (t.batt i).state = .faulted) ∧
      ((s.batt i).state = .faulted → flags.getLsbD 2 = false → (s.batt i).tempFault = false →
        s.bmn.lastBridge ≠ .bridging → (t.batt i).state = .online)

/-- R74 to R78: what a window completion and a sense frame do to a battery module's conditions. The temperature test at a window
completion, in whatever order the blocks take it, counts windows outside −5 to 60 °C, and inside once a fault stands: the tenth outside sets the
temperature fault and takes an ONLINE, DEPLETED or tested module to FAULTED; the tenth inside clears it, and a FAULTED module that
reports no fault leaves FAULTED. An ABSENT module is not tested. A frame in BRIDGING that takes charge from an ONLINE module marks it
DEPLETED at its reserve, or with its cutoff flag. -/
def Obligations.BatteryConditions : Prop :=
  (∀ (order : List WindowBlock) (i : Fin 4) (s : State), 100 ≤ s.sfe.window.count → CapacityOk s → TestOk s →
    ∃ t, exec (.evaluationWindowCompletion order) s = .next t ∧
      let b := s.batt i
      let mean := s.sfe.window.tbmSum[i].tdiv 100
      let inside := -5 ≤ mean ∧ mean ≤ 60
      ((t.batt i).tempFault, (t.batt i).outCount, (t.batt i).inCount) =
        (if b.state = .absent then (b.tempFault, b.outCount, b.inCount)
        else if b.tempFault = true then
          if inside then (if b.inCount + 1 < 10 then (true, b.outCount, b.inCount + 1) else (false, 0, 0))
          else (true, b.outCount, 0)
        else if inside then (false, 0, b.inCount)
        else if b.outCount + 1 < 10 then (false, b.outCount + 1, b.inCount) else (true, 0, 0)) ∧
      (b.tempFault = false → ¬ inside → 10 ≤ b.outCount + 1 →
        (b.state = .online ∨ b.state = .depleted ∨ b.state = .testing) → (t.batt i).state = .faulted) ∧
      (b.tempFault = true → inside → 10 ≤ b.inCount + 1 → b.state = .faulted →
        if b.reportedFault = true then (t.batt i).state = .faulted
        else (t.batt i).state = .online ∨
          ((t.batt i).state = .depleted ∧ (s.bmn.lastBridge = .bridging ∨ t.bmn.lastBridge = .bridging)))) ∧
  ∀ (raw : RawFrame) (s : State), nothingDue s → ∃ t, exec (.senseFrame raw) s = .next t ∧ ∀ i, (t.batt i).state =
    if (s.batt i).state = .online ∧ s.bmn.lastBridge = .bridging ∧ (t.batt i).q < (s.batt i).q ∧
      ((t.batt i).q ≤ s.cfg.batteryCapacity[i] * s.cfg.reservePct / 100 ∨ (s.batt i).cutoff = true) then .depleted
    else (s.batt i).state

/-- R82 to R86: an impedance test's start and the ends of its phases. START_IMPEDANCE_TEST is refused with BUSY while a context stands,
then with STATE unless the conditions of R82 hold, and otherwise begins the test; BASELINE_END forms V0 and I0 and asks for the load, or
aborts where Q1 has no room; SETTLE_END begins MEASURE; MEASURE_END forms the result from the four means and asks for the release, R
keeping its value; RELEASE_SETTLE_END ends the test with its result; an owed release is placed
when Q1 has room. That a phase's end is a command of its own, apart from the frame that brings the count to its end, is the model's (log entry 7), as is that
the frame count keeps the ended phase's value in LOADING and RELEASING (log entry 39). -/
def Obligations.ImpedanceTestPhases : Prop :=
  (∀ (s : State) (tag : Byte) (i : Fin 4), portReady s →
    (s.bmn.test.phase ≠ .idle →
      exec (.startImpedanceTest tag [BitVec.ofNat 8 i]) s = .next (replied 0x1C tag (refuse .busy) (heard s))) ∧
    (s.bmn.test.phase = .idle →
      ¬ (s.bmn.lastBridge = .grid ∧ s.acm.shelf = .good ∧ (s.batt i).state = .online ∧
        s.cfg.batteryCapacity[i] * s.cfg.testMinSocPct / 100 ≤ (s.batt i).q) →
      exec (.startImpedanceTest tag [BitVec.ofNat 8 i]) s = .next (replied 0x1C tag (refuse .state) (heard s))) ∧
    (s.bmn.test.phase = .idle → s.bmn.lastBridge = .grid → s.acm.shelf = .good → (s.batt i).state = .online →
      s.cfg.batteryCapacity[i] * s.cfg.testMinSocPct / 100 ≤ (s.batt i).q →
      ∃ t, exec (.startImpedanceTest tag [BitVec.ofNat 8 i]) s = .next t ∧
        t.batt i = { s.batt i with state := .testing } ∧ battsKeptBut i s t ∧
        t.bmn.test = ⟨some i, .baseline, 0, 0, 0, none, none, none, false, false⟩ ∧
        t.mgp.reply = some (replyFrame 0x1C tag okEmpty) ∧ changesOnly [.mgp, .bmn, .nq] (heard s) t)) ∧
  ∀ (s : State) (i : Fin 4), s.bmn.test.module = some i →
    (s.bmn.test.phase = .baseline → 50 ≤ s.bmn.test.count → s.roomInQ1 = true →
      ∃ t, exec .baselineEnd s = .next t ∧
        t.bmn.test = { s.bmn.test with
          base := some (s.bmn.test.vSum / 50, s.bmn.test.iSum.tdiv 50), phase := .loading } ∧
        t.ulc.q1 = s.ulc.q1 ++ [⟨.battery i, .testLoadOn, some s.cfg.testCurrentA, .bmn, 0, false⟩] ∧
        t.bmn.batts = s.bmn.batts ∧ changesOnly [.bmn, .ulc] s t) ∧
    (s.bmn.test.phase = .baseline → 50 ≤ s.bmn.test.count → s.roomInQ1 = false →
      ∃ t, exec .baselineEnd s = .next t ∧ (t.batt i).state = .online ∧
        (t.batt i).latest = some ⟨.aborted, some .queue, none, none⟩ ∧ (t.batt i).resistance = (s.batt i).resistance ∧
        t.bmn.test.phase = .idle ∧ t.bmn.test.module = none ∧ changesOnly [.bmn, .nq] s t) ∧
    (s.bmn.test.phase = .settle → 20 ≤ s.bmn.test.count →
      ∃ t, exec .settleEnd s = .next t ∧
        t.bmn.test = { s.bmn.test with phase := .measure, count := 0, vSum := 0, iSum := 0 } ∧ changesOnly [.bmn] s t) ∧
    (s.bmn.test.phase = .releaseSettle → 20 ≤ s.bmn.test.count →
      ∃ t, exec .releaseSettleEnd s = .next t ∧ (t.batt i).state = .online ∧ battsKeptBut i s t ∧
        (∀ r, s.bmn.test.pending = some (.stored r) → (t.batt i).resistance = r ∧
          (t.batt i).measuredAt = some s.partTime) ∧
        ((∀ r, s.bmn.test.pending ≠ some (.stored r)) → (t.batt i).resistance = (s.batt i).resistance ∧
          (t.batt i).measuredAt = (s.batt i).measuredAt) ∧
        t.bmn.test.phase = .idle ∧ t.bmn.test.module = none ∧ changesOnly [.bmn, .nq] s t) ∧
    (s.bmn.test.releaseOwed = true → s.roomInQ1 = true →
      ∃ t, exec .testLoadOffOwedPlaced s = .next t ∧ t.bmn.test = { s.bmn.test with releaseOwed := false } ∧
        t.ulc.q1 = s.ulc.q1 ++ [⟨.battery i, .testLoadOff, none, .bmn, 0, false⟩] ∧ changesOnly [.bmn, .ulc] s t) ∧
    ∀ (v0 : Nat) (i0 : Int), s.bmn.test.phase = .measure → 50 ≤ s.bmn.test.count → s.bmn.test.base = some (v0, i0) →
      ∃ t, exec .measureEnd s = .next t ∧ t.bmn.batts = s.bmn.batts ∧ t.bmn.test.phase = .releasing ∧
        t.bmn.test.loaded = some (s.bmn.test.vSum / 50, s.bmn.test.iSum.tdiv 50) ∧
        t.bmn.test.releaseOwed = !s.roomInQ1 ∧
        t.ulc.q1 = (if s.roomInQ1 then s.ulc.q1 ++ [⟨.battery i, .testLoadOff, none, .bmn, 0, false⟩] else s.ulc.q1) ∧
        let dV : Int := v0 - (s.bmn.test.vSum / 50 : Nat)
        let dI : Int := s.bmn.test.iSum.tdiv 50 - i0
        (dI < 50 → t.bmn.test.pending = some .inconclusive) ∧
        (50 ≤ dI → ∃ r : Int, 2 * dI * r ≤ 2 * (dV * 100) + dI ∧ 2 * (dV * 100) + dI < 2 * dI * (r + 1) ∧
          t.bmn.test.pending = some (if 1 ≤ r ∧ r ≤ 500 then .stored r.toNat else .inconclusive))

/-! ## Ride-through timers -/

/-- R92, R95, R96, R98 to R100: the changes of the bridge state out of GRID. A window completion with input sufficient, in whatever order the
blocks take it, takes BRIDGING and DEPLETED to RECOVERING with the stable timer started; with input not sufficient it returns RECOVERING
to BRIDGING, takes BRIDGING to DEPLETED when no module is counted, one is DEPLETED and the batteries carry load, and sheds every
candidate, class 3 among them, on that entry and in DEPLETED when the shed-settle timer has stopped. The stable timer's expiry in
RECOVERING enters GRID: the outage duration is kept, the elapsed time goes to 0, both timers stop, the bridge hold ends, and every
DEPLETED module returns to ONLINE. R127, R132 to R134: at that entry a restore run goes on, or, with AutoRestore on and the Restore List not
empty, one begins with the sequencer's state kept; it puts the head of the list to admission, or ends with the list empty, and a kept hold with reason
BRIDGING is then lifted. With no run a hold with reason BRIDGING is lifted: the begun step goes on at its cursor, or the step is begun
again; every other state stands. The shed-settle timer's expiry clears it and does nothing else. That a stable-timer expiry outside
RECOVERING changes nothing is the model's (log entry 6), as is that a shed takes a returned POWER ON for one still queued (log entry 35). -/
def Obligations.BridgeStates : Prop :=
  (∀ s : State,
    exec .shedSettleExpiry s = .next { s with brc := { s.brc with shedSettle := none } } ∧
    (s.brc.state ≠ .recovering → exec .stableTimerExpiry s = .next s) ∧
    (s.brc.state = .recovering → s.brc.stable ≠ none →
      ∃ t, exec .stableTimerExpiry s = .next t ∧ t.brc.state = .grid ∧ t.brc.elapsedMs = 0 ∧ t.brc.stable = none ∧
        t.brc.shedSettle = none ∧ t.brc.lastOutage = some (min 65535 (s.brc.elapsedMs / 1000)) ∧
        t.brc.shortfallReported = s.brc.shortfallReported ∧ t.brc.estimate = s.brc.estimate ∧ t.seq.bridgeHold = false ∧
        (∀ i, (t.batt i).state = if (s.batt i).state = .depleted then .online else (s.batt i).state) ∧
        (let f := entersGrid s
        (∀ r, s.seq.state = .restoring → s.seq.restore = some r → RestoreAdmits r.kept r.count f s t ∧
          (s.ldm.restoreList = [] → t.seq.restore = none ∧
            (r.kept = none → s.seq.startPending = false → t.seq.state = .idle) ∧
            (r.kept = some .held → s.seq.holdReason = some .bridging →
              BridgingLifted { f with seq := { f.seq with restore := none } } t))) ∧
        (s.seq.state ≠ .restoring → s.cfg.autoRestore = true → s.ldm.restoreList ≠ [] →
          RestoreAdmits (if s.seq.state = .idle then none else some s.seq.state) 0 f s t) ∧
        (s.seq.state ≠ .restoring → s.cfg.autoRestore = false ∨ s.ldm.restoreList = [] → t.ldm = s.ldm ∧
          (s.seq.state = .held → s.seq.holdReason = some .bridging → BridgingLifted f t) ∧
          (s.seq.state ≠ .held ∨ s.seq.holdReason ≠ some .bridging → t.seq = f.seq))))) ∧
  ∀ (order : List WindowBlock) (s : State), ordersBlocks order = true → 100 ≤ s.sfe.window.count → CapacityOk s →
    QueuesOk s → s.brc.state ≠ .grid →
    let f := bridgeSees order s
    let e := bridgingEstimate f
    let shedAll := fun t : State => ∃ taken, ShedTakes .depleted 65535 s t taken ∧ ShedCalls s t taken ∧
      t.brc.shedSettle = some s.cfg.shedSettleMs ∧ t.brc.lastShed = some
        ⟨.depleted, 65535, (taken.map (contributionOf s)).sum, 65535 - (taken.map (contributionOf s)).sum⟩
    ∃ t, exec (.evaluationWindowCompletion order) s = .next t ∧ t.brc.elapsedMs = s.brc.elapsedMs ∧
      (f.inputSufficient = true → t.brc.state = .recovering ∧ t.ldm.slots = s.ldm.slots ∧
        t.ldm.restoreList = s.ldm.restoreList ∧ t.brc.shedSettle = s.brc.shedSettle ∧
        t.brc.stable = if s.brc.state = .recovering then s.brc.stable else some s.cfg.acStableMs) ∧
      (f.inputSufficient = false → s.brc.state = .recovering → t.brc.state = .bridging ∧ t.brc.stable = none ∧
        t.ldm.slots = s.ldm.slots ∧ t.ldm.restoreList = s.ldm.restoreList) ∧
      (f.inputSufficient = false → s.brc.state = .bridging → f.countedModules = 0 → f.anyDepleted = true → 0 < e.pBatt →
        t.brc.state = .depleted ∧ shedAll t) ∧
      (f.inputSufficient = false → s.brc.state = .depleted → t.brc.state = .depleted ∧
        if 0 < e.pBatt ∧ s.brc.shedSettle = none then shedAll t
        else t.ldm.slots = s.ldm.slots ∧ t.ldm.restoreList = s.ldm.restoreList ∧ t.brc.shedSettle = s.brc.shedSettle ∧
          t.brc.lastShed = s.brc.lastShed)

/-! ## The sequencer -/

/-- R119, R122, R126: SEQ_JUDGE_SLOT in RUNNING judges the slot at the cursor by the table of R122: an ENERGIZING or ON slot is passed by, a
VACANT, FAULTED, ISOLATED or wet one is passed by with STEP_SLOT_SKIPPED, and an OFF or SHED slot is admitted, held for, or passed
by, as the admission with origin PLAN decides. A cursor that passes the step's last slot takes the sequencer to SETTLING with await NONE, and otherwise to
AWAITING, where the await timer starts and the condition is tested at once: with every entry of the admitted set satisfied the timer stops again and
the sequencer goes to SETTLING, whose timer starts. That it changes nothing outside RUNNING is the model's (log entry 6). -/
def Obligations.SequencerJudgesSlot : Prop :=
  ∀ s : State,
    (s.seq.state ≠ .running → exec .seqJudgeSlot s = .next s) ∧
    ∀ n, judging s n →
      (∀ p, s.seq.step = some p → ∃ t, exec .seqJudgeSlot s = .next t ∧
        (t.seq.cursor = s.seq.cursor + 1 ∨ t.seq.cursor = s.seq.cursor ∧ t.seq.state = .held) ∧
        (t.seq.cursor = s.seq.cursor + 1 →
          let satisfied := fun e : Fin 48 × Bool => (p.await = .ack ∧ e.2 = true) ∨ (t.slot e.1).state ≠ .energizing
          t.seq.holdReason = none ∧
          if s.seq.cursor + 1 < p.slots.length then t.seq.state = .running
          else if p.await = .none ∨ ∀ e ∈ t.seq.admitted, satisfied e then
            t.seq.state = .settling ∧ t.seq.settleTimer = some p.settleMs ∧ t.seq.awaitTimer = none
          else t.seq.state = .awaiting ∧ t.seq.awaitTimer = some p.readyTimeoutMs)) ∧
      ((s.slot n).state = .energizing ∨ (s.slot n).state = .on →
        ∃ t, exec .seqJudgeSlot s = .next t ∧ t.seq.cursor = s.seq.cursor + 1 ∧ t.seq.admitted = s.seq.admitted ∧
          changesOnly [.seq] s t) ∧
      ((s.slot n).state = .vacant ∨ (s.slot n).state = .faulted ∨ (s.slot n).state = .isolated ∨
          (s.zone (s.zoneOf n)).wet = true ∧ ((s.slot n).state = .off ∨ (s.slot n).state = .shed) →
        ∃ t, exec .seqJudgeSlot s = .next t ∧ t.seq.cursor = s.seq.cursor + 1 ∧ t.seq.admitted = s.seq.admitted ∧
          (∃ data, t.nq = (post .stepSlotSkipped n data s).nq) ∧ changesOnly [.seq, .nq] s t) ∧
      ((s.slot n).state = .off ∨ (s.slot n).state = .shed → (s.zone (s.zoneOf n)).wet = false →
        (admissionCheck .plan n s = none →
          ∃ t, exec .seqJudgeSlot s = .next t ∧ t.seq.cursor = s.seq.cursor + 1 ∧
            (n, false) ∈ t.seq.admitted ∧ (t.slot n).state = .energizing ∧
            (t.slot n).chargedInrush = some (s.slotCfg n).inrush ∧ slotsKeptBut [n] s t ∧
            t.ulc.q1 = (s.ulc.q1.filter fun r => !isPowerFor n r) ++ [⟨.slot n, .powerOn, none, .ldm, 0, false⟩]) ∧
        (∀ r h, admissionCheck .plan n s = some r → r.holdReason = some h →
          ∃ t, exec .seqJudgeSlot s = .next t ∧ t.seq.state = .held ∧ t.seq.holdReason = some h ∧
            t.seq.cursor = s.seq.cursor ∧ (∃ data, t.nq = (post .seqHold 0 data s).nq) ∧ changesOnly [.seq, .nq] s t) ∧
        (∀ r, admissionCheck .plan n s = some r → r.holdReason = none →
          ∃ t, exec .seqJudgeSlot s = .next t ∧ t.seq.cursor = s.seq.cursor + 1 ∧
            (∃ data, t.nq = (post .stepSlotSkipped n data s).nq) ∧ changesOnly [.seq, .nq] s t))

/-- R13, R15: the admission checks, in their order: each reason stands for the first check that fails. -/
def Obligations.AdmissionChecksInOrder : Prop :=
  ∀ (origin : AdmissionOrigin) (n : Fin 48) (s : State),
    admissionCheck origin n s =
      ((([(.level, decide (s.lvs.level = .supervise ∧ s.lvs.startingUp = false)),
        (.bridging, decide (s.brc.state = .grid)),
        (.zoneIsolated, decide ((s.zone (s.zoneOf n)).isolated = false)),
        (.state, decide ((s.slot n).state = .off ∨ (s.slot n).state = .shed ∧ (origin = .host ∨ origin = .restore))),
        (.link, decide (s.presence (.slot n) = .present)),
        (.zoneWet, decide ((s.zone (s.zoneOf n)).wet = false)),
        (.capacity, decide (((s.ldm.pComm + (s.slotCfg n).allocation : Nat) : Int) ≤
          max 0 ((s.rsv.pAvail : Int) - s.cfg.headroomW))),
        (.ramp, decide (s.ldm.rampLevel + (s.slotCfg n).inrush ≤ s.cfg.rampCeilingW)),
        (.coverage, decide (s.cfg.coverageRequired = false ∨
          s.cfg.holdupRequiredS ≤ (coverageEstimate s (s.sfe.latest.pAvg + (s.slotCfg n).allocation)).tRide)),
        (.queue, decide (s.roomInQ1 = true))] : List (RefusalReason × Bool)).find? fun c => !c.2).map (·.1))

/-- R121, R123 to R125, R132 to R134: the sequencer's timers. The await expiry goes to SETTLING for SKIP and to HELD with READY_TIMEOUT for
HOLD; the settle expiry begins the next step, which with no slots goes straight to SETTLING, or completes the plan; the restore settle expiry admits the next head of the Restore
List, holds the run for the refusal's reason, or ends the run where the list is empty: with no kept state the sequencer goes to IDLE, a
kept hold with reason BRIDGING is lifted, and every other kept state but AWAITING, whose condition is tested, is resumed as it stood. -/
def Obligations.SequencerTimers : Prop :=
  (∀ (s : State) (p : PlanStep), s.seq.state = .awaiting → s.seq.awaitTimer ≠ none → s.seq.step = some p →
    ∃ t, exec .awaitTimerExpiry s = .next t ∧ t.seq.awaitTimer = none ∧ changesOnly [.seq, .nq] s t ∧
      match p.onTimeout with
      | .skip => t.seq.state = .settling ∧ t.seq.settleTimer = some p.settleMs
      | .hold => t.seq.state = .held ∧ t.seq.holdReason = some .readyTimeout) ∧
  (∀ (s : State) (plan : Plan), s.seq.state = .settling → s.seq.settleTimer ≠ none → s.seq.active = some plan →
    (plan.steps.length ≤ s.seq.stepIndex + 1 → s.seq.startPending = false →
      ∃ t, exec .settleTimerExpiry s = .next t ∧ t.seq.state = .idle ∧ t.seq.active = none ∧
        (∃ data, t.nq = (post .planDone 0 data s).nq) ∧ changesOnly [.seq, .nq] s t) ∧
    (∀ p, s.seq.stepIndex + 1 < plan.steps.length → plan.steps[s.seq.stepIndex + 1]? = some p →
      ∃ t, exec .settleTimerExpiry s = .next t ∧ t.seq.stepIndex = s.seq.stepIndex + 1 ∧ t.seq.cursor = 0 ∧
        t.seq.admitted = [] ∧ t.seq.active = some plan ∧ t.seq.awaitTimer = none ∧
        (t.seq.state, t.seq.holdReason, t.seq.settleTimer) =
          (if s.seq.bridgeHold then (.held, some .bridging, none)
          else if s.seq.hostSilent then (.held, some .hostSilent, none)
          else if p.slots = [] then (.settling, none, some p.settleMs) else (.running, none, none)) ∧
        changesOnly [.seq, .nq] s t)) ∧
  ∀ (s : State) (r : RestoreRun), s.seq.state = .restoring → s.seq.restore = some r → r.phase = .settle → r.timer ≠ none →
    (s.ldm.restoreList = [] → r.kept = none → s.seq.startPending = false →
      ∃ t, exec .restoreSettleExpiry s = .next t ∧ t.seq.state = .idle ∧ t.seq.restore = none ∧
        (∃ data, t.nq = (post .restoreDone 0 data s).nq) ∧ changesOnly [.seq, .nq] s t) ∧
    (∀ k, s.ldm.restoreList = [] → r.kept = some k →
      ∃ t, exec .restoreSettleExpiry s = .next t ∧ t.seq.restore = none ∧ changesOnly [.seq, .nq] s t ∧
        (k = .held → s.seq.holdReason = some .bridging →
          BridgingLifted { s with seq := { s.seq with restore := none } } t) ∧
        (k ≠ .awaiting → k ≠ .held ∨ s.seq.holdReason ≠ some .bridging →
          t.seq = { s.seq with state := k, restore := none } ∧ ∃ data, t.nq = (post .restoreDone 0 data s).nq)) ∧
    (∀ n rest, s.ldm.restoreList = n :: rest → admissionCheck .restore n s = none →
      ∃ t, exec .restoreSettleExpiry s = .next t ∧ (t.slot n).state = .energizing ∧ slotsKeptBut [n] s t ∧
        t.ldm.restoreList = rest.filter (· ≠ n) ∧ t.seq.state = .restoring ∧
        t.seq.restore = some ⟨r.kept, .awaitAck, none, some n, none, r.count + 1⟩) ∧
    (∀ n rest e, s.ldm.restoreList = n :: rest → admissionCheck .restore n s = some e →
      ∃ t, exec .restoreSettleExpiry s = .next t ∧ t.seq.state = .restoring ∧
        t.seq.restore = some ⟨r.kept, .held, some e, none, none, r.count⟩ ∧ changesOnly [.seq, .nq] s t)

/-- R120, R121, R126, R129 to R131: PLAN_START promotes a READY staged plan when the sequencer is IDLE and marks it start-pending otherwise.
PLAN_PAUSE keeps what was paused, for a position that a restore run keeps too, and PLAN_RESUME returns to it: AWAITING has its condition
tested at once, a hold for an admission reason is re-attempted at once, and a hold for BRIDGING, HOST_SILENT or READY_TIMEOUT that still stands
stands again. PLAN_CANCEL drops both plans and any restore run, withdraws the queued POWER ON of each slot of the admitted set and no
other call, and leaves the sequencer IDLE; with nothing held, admitted or staged it only posts its notice. What the sequencer
cannot take is refused with STATE. That a PLAN_RESUME to a HELD that still stands posts one SEQ_HOLD more, and that its re-attempt of an
admission refusal does not test the reason, is the model's (log entry 11), as is where the hold reason of a paused position is kept (log
entry 24). -/
def Obligations.PlanRequests : Prop :=
  ∀ (s : State) (tag : Byte), portReady s →
    let u := heard s
    let pause := Instr.planPause tag []
    let resume := Instr.planResume tag []
    (∀ p, u.seq.staged = .ready p → u.seq.state = .idle →
      ∃ t, exec (.planStart tag []) s = .next t ∧ t.seq.active = some p ∧ t.seq.staged = .empty ∧
        t.seq.startPending = false ∧ t.seq.stepIndex = 0 ∧ t.mgp.reply = some (replyFrame 0x12 tag okEmpty) ∧
        changesOnly [.mgp, .seq, .nq] u t) ∧
    (∀ p, u.seq.staged = .ready p → u.seq.state ≠ .idle →
      exec (.planStart tag []) s =
        .next (replied 0x12 tag okEmpty { u with seq := { u.seq with startPending := true } })) ∧
    ((∀ p, u.seq.staged ≠ .ready p) →
      exec (.planStart tag []) s = .next (replied 0x12 tag (refuse .state) u)) ∧
    (u.seq.state = .running ∨ u.seq.state = .awaiting ∨ u.seq.state = .settling ∨ u.seq.state = .held →
      exec pause s = .next (replied 0x13 tag okEmpty { u with seq := { u.seq with
        state := .paused, pausedFrom := some (u.seq.state, u.seq.holdReason), holdReason := none } })) ∧
    (u.seq.state = .paused → exec pause s = .next (replied 0x13 tag okEmpty u)) ∧
    (u.seq.state = .idle → exec pause s = .next (replied 0x13 tag (refuse .state) u) ∧
      exec resume s = .next (replied 0x14 tag (refuse .state) u)) ∧
    (∀ r, u.seq.state = .restoring → u.seq.restore = some r →
      (r.kept = none → exec pause s = .next (replied 0x13 tag (refuse .state) u)) ∧
      (r.kept = some .paused → exec pause s = .next (replied 0x13 tag okEmpty u)) ∧
      (∀ k, r.kept = some k → k ≠ .paused → exec pause s = .next (replied 0x13 tag okEmpty { u with seq := { u.seq with
        restore := some { r with kept := some .paused }, pausedFrom := some (k, u.seq.holdReason), holdReason := none } })) ∧
      (∀ st h, r.kept = some .paused → u.seq.pausedFrom = some (st, h) →
        exec resume s = .next (replied 0x14 tag okEmpty { u with seq := { u.seq with
          restore := some { r with kept := some st }, holdReason := h, pausedFrom := none } })) ∧
      (r.kept ≠ some .paused → exec resume s = .next (replied 0x14 tag (refuse .state) u))) ∧
    (∀ st r, u.seq.state = .paused → u.seq.pausedFrom = some (st, r) →
      let back := { u with seq := { u.seq with state := st, holdReason := r, pausedFrom := none } }
      (st = .running ∨ st = .settling → exec resume s = .next (replied 0x14 tag okEmpty back)) ∧
      (∀ p, st = .awaiting → u.seq.step = some p → exec resume s = .next (replied 0x14 tag okEmpty
        (if u.seq.admitted.all (entrySatisfied p.await u) = true then { back with seq := { back.seq with
          state := .settling, holdReason := none, awaitTimer := none, settleTimer := some p.settleMs } }
        else back))) ∧
      (∀ h, st = .held → r = some h → (h = .readyTimeout ∨ h = .bridging ∧ u.seq.bridgeHold = true ∨
          h = .hostSilent ∧ u.seq.hostSilent = true) →
        ∃ t, exec resume s = .next t ∧ t.seq = back.seq ∧ (∃ data, t.nq = (post .seqHold 0 data u).nq) ∧
          t.mgp.reply = some (replyFrame 0x14 tag okEmpty) ∧ changesOnly [.mgp, .seq, .nq] u t)) ∧
    (∀ h n, (u.seq.state = .held ∧ u.seq.holdReason = some h ∨
          u.seq.state = .paused ∧ u.seq.pausedFrom = some (.held, some h)) →
      h ≠ .readyTimeout → h ≠ .hostSilent → h ≠ .bridging → u.seq.slotAtCursor = some n →
      ((u.slot n).state = .off ∨ (u.slot n).state = .shed) → (u.zone (u.zoneOf n)).wet = false →
      (admissionCheck .plan n u = none → ∃ t, exec resume s = .next t ∧ (t.slot n).state = .energizing ∧
        (n, false) ∈ t.seq.admitted ∧ t.seq.cursor = u.seq.cursor + 1 ∧
        t.mgp.reply = some (replyFrame 0x14 tag okEmpty)) ∧
      ∀ e g, admissionCheck .plan n u = some e → e.holdReason = some g → ∃ t, exec resume s = .next t ∧
        t.seq.state = .held ∧ t.seq.holdReason = some g ∧ t.seq.cursor = u.seq.cursor ∧
        t.mgp.reply = some (replyFrame 0x14 tag okEmpty) ∧ changesOnly [.mgp, .seq, .nq] u t) ∧
    (u.seq.state = .held → u.seq.holdReason = some .readyTimeout → ∀ p, u.seq.step = some p →
      exec resume s = .next (replied 0x14 tag okEmpty { u with seq := { u.seq with
        state := .settling, holdReason := none, awaitTimer := none, settleTimer := some p.settleMs } })) ∧
    (u.seq.state = .held → (u.seq.holdReason = some .hostSilent ∨
        u.seq.holdReason = some .bridging ∧ u.seq.bridgeHold = true) →
      exec resume s = .next (replied 0x14 tag (refuse .state) u)) ∧
    ∃ t, exec (.planCancel tag []) s = .next t ∧ t.seq.state = .idle ∧ t.seq.active = none ∧ t.seq.staged = .empty ∧
      t.seq.startPending = false ∧ t.seq.restore = none ∧ t.seq.admitted = [] ∧
      (∀ n mark, (n, mark) ∈ u.seq.admitted → t.ulc.q1.any (isPowerOnFor n) = false) ∧
      (∀ r, (∀ n mark, (n, mark) ∈ u.seq.admitted → isPowerOnFor n r = false) → t.ulc.q1.count r = s.ulc.q1.count r) ∧
      (u.seq.admitted = [] → t.ldm = s.ldm ∧ t.ulc = s.ulc) ∧
      t.mgp.reply = some (replyFrame 0x15 tag okEmpty) ∧ changesOnly [.mgp, .seq, .nq, .ldm, .ulc] u t

/-- R115 to R117: PLAN_BEGIN leaves its buffer FILLING with every index unwritten, and PLAN_STEPS writes one or more step records into a FILLING
buffer from its first index on, each clamped, and makes the buffer READY when every index is written. The buffer STORED, which is the
stored plan of the settings, is written at CONFIGURE alone, with WRONG_LEVEL at SUPERVISE, and sets the settings-dirty flag. A refused
request writes nothing. A write of the buffer STORED during a commit is refused with BUSY (R194), after the request's other checks (log
entry 19, the model's order). -/
def Obligations.PlanBuffers : Prop :=
  ∀ (s : State) (tag id1 id0 count first : Byte) (bytes : List Byte), portReady s →
    let u := heard s
    let steps := fun target : Byte => Instr.planSteps tag ([target, first] ++ bytes)
    (count = 0 ∨ 64 < count.toNat → ∀ target,
      exec (.planBegin tag [target, id1, id0, count]) s = .next (replied 0x10 tag (refuse .outOfRange) u)) ∧
    (1 ≤ count.toNat → count.toNat ≤ 64 →
      exec (.planBegin tag [0, id1, id0, count]) s = .next (replied 0x10 tag okEmpty { u with seq := { u.seq with
        staged := .filling (id1 ++ id0) (List.replicate count.toNat none)
        startPending := false, startupStaged := false } }) ∧
      exec (.planBegin tag [1, id1, id0, count]) s =
        (if u.lvs.level = .supervise then .next (replied 0x10 tag (refuse .wrongLevel) u)
        else if u.lvs.commit ≠ none then .next (replied 0x10 tag (refuse .busy) u)
        else .next (replied 0x10 tag okEmpty { u with lvs := { u.lvs with
          settings := { u.lvs.settings with
            storedPlan := .filling (id1 ++ id0) (List.replicate count.toNat none) }
          dirty := true } }))) ∧
    (bytes.length % 17 = 0 → bytes ≠ [] → bytes.length ≤ 238 → ∀ stored : Bool,
      let target : Byte := if stored then 1 else 0
      let buffer := if stored then u.cfg.storedPlan else u.seq.staged
      (stored = true → u.lvs.level = .supervise →
        exec (steps target) s = .next (replied 0x11 tag (refuse .wrongLevel) u)) ∧
      (stored = false ∨ u.lvs.level = .configure →
        ((∀ id l, buffer ≠ .filling id l) → exec (steps target) s = .next (replied 0x11 tag (refuse .state) u)) ∧
        ∀ id l, buffer = .filling id l →
          (l.length < first.toNat + bytes.length / 17 ∨
              (∃ k, k < bytes.length / 17 ∧ stepOf ((bytes.drop (17 * k)).take 17) = none) →
            exec (steps target) s = .next (replied 0x11 tag (refuse .outOfRange) u)) ∧
          ∀ records : List PlanStep, records.length = bytes.length / 17 → first.toNat + records.length ≤ l.length →
            (∀ k, k < records.length → stepOf ((bytes.drop (17 * k)).take 17) = records[k]?) →
            (stored = true → u.lvs.commit ≠ none →
              exec (steps target) s = .next (replied 0x11 tag (refuse .busy) u)) ∧
            (stored = false ∨ u.lvs.commit = none →
              let written := l.take first.toNat ++ records.map (fun p => some p.clamped) ++
                l.drop (first.toNat + records.length)
              ∃ t resp after, exec (steps target) s = .next t ∧ resp.status = .ok ∧
                resp.payload = u8 (written.filter (·.isNone)).length ∧
                (resp.clamped = true ↔ ∃ p ∈ records, p.clamped ≠ p) ∧ t.mgp.reply = some (replyFrame 0x11 tag resp) ∧
                (if none ∈ written then after = .filling id written
                else ∃ plan, after = .ready plan ∧ plan.id = id ∧ plan.steps.map some = written) ∧
                (stored = false → t.seq = { u.seq with staged := after } ∧ changesOnly [.mgp, .seq] u t) ∧
                (stored = true → changesOnly [.mgp, .lvs] u t ∧ t.lvs = { u.lvs with
                  settings := { u.lvs.settings with storedPlan := after }, dirty := true }))))

/-! ## Leak detection, zones and slots -/

/-- R139, R141 to R146, R152: one sample of every enabled channel: the recorded conductance and loop, the run, the channel's state by the
rules of its present state, prior-wet on entry into OPEN_FAULT and on leaving it, and the location: measured on entry into CONFIRMED and every
100 samples there on a rope with the long pulse, kept into LATCHED and into OPEN_FAULT from CONFIRMED or LATCHED. A channel that is not enabled
is not sampled. R150, R151: an entry into CONFIRMED with policy ISOLATE isolates every zone of the channel's set; and where one channel alone changes
its state, its zones are isolated, their delay timers started, shortened, kept or cancelled, or nothing done, as its policy and the
other active-wet channels give. The model's own: that a loop reading from 65,536 to 100,000 is a number the field records, and not OPEN
(log entry 4); that the location is computed from the loop reading as measured (log entry 21); and that location samples stands still on the sample
that takes CONFIRMED to LATCHED or OPEN_FAULT, and outside CONFIRMED (log entry 40). -/
def Obligations.LeakSampled : Prop :=
  ∀ (readings : Vector LeakReading 8) (s : State), ∃ t, exec (.leakSample readings) s = .next t ∧ t.lvs = s.lvs ∧
    (∀ c : Fin 8,
      let l := s.leakCfg c
      let r := s.channel c
      let g := min 65535 readings[c].conductance
      let loop := readings[c].loop
      let cls : SampleClass :=
        if 100000 < loop then .openLoop
        else if l.wetThreshold ≤ g then .wet else if g ≤ l.dryThreshold then .dry else .ambig
      let measures := l.kind = .rope ∧ l.pulseWidth = .w3of16
      let place := if measures then
          some (if loop < l.rlead then 0 else min l.ropeLengthCm ((loop - l.rlead) * 100 / l.rpm))
        else none
      (l.enabled = false → t.channel c = r) ∧
      (l.enabled = true →
        (t.channel c).lastConductance = g ∧
        ((t.channel c).lastLoop = none ↔ 100000 < loop) ∧ (loop ≤ 65535 → (t.channel c).lastLoop = some loop) ∧
        (cls = .ambig → (t.channel c).runClass = r.runClass ∧ (t.channel c).runCount = r.runCount) ∧
        (∀ k, cls.run = some k → (t.channel c).runClass = some k ∧
          (t.channel c).runCount = if r.runClass = some k then min 1000 (r.runCount + 1) else 1) ∧
        (t.channel c).state = leakAfter l cls (t.channel c).runCount r.priorWet r.state ∧
        ((t.channel c).state = .confirmed → r.state ≠ .confirmed →
          (t.channel c).priorWet = false ∧ (t.channel c).location = place ∧ (t.channel c).locationSamples = 0 ∧
          (l.policy = .isolate → ∀ z, l.covers z = true → (t.zone z).isolated = true)) ∧
        ((t.channel c).state = .confirmed → r.state = .confirmed → (t.channel c).priorWet = r.priorWet ∧
          ((t.channel c).location, (t.channel c).locationSamples) =
            if measures then
              if 100 ≤ r.locationSamples + 1 ∧ cls = .wet then (place, 0)
              else (r.location, min 100 (r.locationSamples + 1))
            else (r.location, r.locationSamples)) ∧
        ((t.channel c).state = .openFault → r.state ≠ .openFault →
          ((t.channel c).priorWet = true ↔ r.state = .confirmed ∨ r.state = .latched) ∧
          (t.channel c).location = if r.state = .confirmed ∨ r.state = .latched then r.location else none) ∧
        ((t.channel c).state = .openFault → r.state = .openFault →
          (t.channel c).priorWet = r.priorWet ∧ (t.channel c).location = r.location) ∧
        ((t.channel c).state ≠ .openFault → r.state = .openFault → (t.channel c).priorWet = false) ∧
        ((t.channel c).state ≠ .confirmed → (t.channel c).state ≠ .openFault →
          (t.channel c).location = r.location ∧ (t.channel c).locationSamples = r.locationSamples))) ∧
    ∀ c : Fin 8, (∀ o, o ≠ c → (t.channel o).state = (s.channel o).state) →
      let l := s.leakCfg c
      let was := (s.channel c).state
      let now := (t.channel c).state
      let kept := fun z : Fin 8 => t.lkm.delay[z] = s.lkm.delay[z] ∧ (t.zone z).isolated = (s.zone z).isolated
      (∀ z, l.covers z = false ∨ was = now → kept z) ∧
      ∀ z, l.covers z = true → was ≠ now →
        (now.active l.openPolicy = true → match l.policy with
          | .alarm => kept z
          | .isolate => t.lkm.delay[z] = none ∧ (t.zone z).isolated = true
          | .isolateDelayed =>
            if (s.zone z).isolated then kept z
            else if l.isolateDelayMs = 0 then t.lkm.delay[z] = none ∧ (t.zone z).isolated = true
            else (t.zone z).isolated = false ∧ t.lkm.delay[z] = some (match s.lkm.delay[z] with
              | none => l.isolateDelayMs
              | some left => min left l.isolateDelayMs)) ∧
        (now.active l.openPolicy = false → (t.zone z).isolated = (s.zone z).isolated ∧ t.lkm.delay[z] =
          if was.active l.openPolicy = true ∧ t.zoneActiveWet z = false then none else s.lkm.delay[z])

/-- R21, R22, R151: the expiry of a running isolation delay stops the timer and isolates the zone: marked with its shed line asserted, its
slots ISOLATED but for the VACANT ones, each off the Restore List, one POWER OFF and no POWER ON queued for each that was
ENERGIZING, ON or SHED; the slots of the other zones keep their records. That it changes nothing with no timer running is the model's (log
entry 6). ZONE_RELEASE (R25, R182) is refused with OUT_OF_RANGE for a zone above 7, with STATE for a zone not isolated and with
STILL_WET for a wet one; otherwise the zone is released: its ISOLATED slots go to OFF, or to VACANT with allocation 0, its line is
de-asserted and ZONE_RELEASED is posted. -/
def Obligations.ZoneIsolationAndRelease : Prop :=
  (∀ (z : Fin 8) (s : State),
    (s.lkm.delay[z] = none → exec (.isolationDelayExpiry z) s = .next s) ∧
    (s.lkm.delay[z] ≠ none → (s.zone z).isolated = true →
      ∃ t, exec (.isolationDelayExpiry z) s = .next t ∧ t.lkm.delay[z] = none ∧ (t.zone z).isolationDelay = none ∧
        t.ldm.slots = s.ldm.slots ∧ changesOnly [.lkm, .ldm] s t) ∧
    (s.lkm.delay[z] ≠ none → (s.zone z).isolated = false →
      ∃ t, exec (.isolationDelayExpiry z) s = .next t ∧ t.lkm.delay[z] = none ∧
        t.zone z = ⟨(s.zone z).wet, true, none, true⟩ ∧ (∀ y, y ≠ z → t.zone y = s.zone y) ∧
        ∀ n : Fin 48,
          (s.zoneOf n ≠ z → t.slot n = s.slot n ∧ (n ∈ t.ldm.restoreList ↔ n ∈ s.ldm.restoreList)) ∧
          (s.zoneOf n = z →
            (t.slot n).state = (if (s.slot n).state = .vacant then .vacant else .isolated) ∧
            ((s.slot n).state = .energizing ∨ (s.slot n).state = .on ∨ (s.slot n).state = .shed →
              (t.slot n).shedReason = none ∧ n ∉ t.ldm.restoreList ∧
              t.ulc.q0.filter (isPowerFor n) = [⟨.slot n, .powerOff, none, .ldm, 0, false⟩] ∧
              t.ulc.q1.any (isPowerFor n) = false)))) ∧
  ∀ (s : State) (tag b : Byte), portReady s →
    (8 ≤ b.toNat → exec (.zoneRelease tag [b]) s = .next (replied 0x0F tag (refuse .outOfRange) (heard s))) ∧
    ∀ z : Fin 8, b.toNat = z →
      ((s.zone z).isolated = false →
        exec (.zoneRelease tag [b]) s = .next (replied 0x0F tag (refuse .state) (heard s))) ∧
      ((s.zone z).isolated = true → (s.zone z).wet = true →
        exec (.zoneRelease tag [b]) s = .next (replied 0x0F tag (refuse .stillWet) (heard s))) ∧
      ((s.zone z).isolated = true → (s.zone z).wet = false →
        ∃ t, exec (.zoneRelease tag [b]) s = .next t ∧ t.mgp.reply = some (replyFrame 0x0F tag okEmpty) ∧
          t.zone z = ⟨false, false, (s.zone z).isolationDelay, false⟩ ∧ (∀ y, y ≠ z → t.zone y = s.zone y) ∧
          (∀ n : Fin 48, t.slot n = if s.zoneOf n = z ∧ (s.slot n).state = .isolated then
            { s.slot n with state := if (s.slotCfg n).allocation = 0 then .vacant else .off } else s.slot n) ∧
          t.ldm.restoreList = s.ldm.restoreList ∧ t.nq = (post .zoneReleased z [] (heard s)).nq ∧
          changesOnly [.mgp, .ldm, .nq] (heard s) t)

/-- R10, R11, R13 to R16, R46: SLOT_POWER. ON asks for an admission with origin HOST: a refusal changes nothing but the reply; a
grant takes the slot to ENERGIZING, raises P_comm by its allocation, charges its inrush to RampLevel, takes it off the Restore List, and places its
POWER ON at the tail of Q1 in place of any other queued POWER call for it; where a coverage estimate was made for it, the Bridge
Controller has read P_avail (the figure it keeps is the model's item, log entry 36). OFF sheds an ENERGIZING or ON slot for the host, turns a SHED
slot's reason to HOST and takes it off the Restore List, and in each case leaves one POWER OFF as the only queued POWER call for the
slot; any other slot is refused with STATE. -/
def Obligations.SlotPowered : Prop :=
  ∀ (s : State) (tag b : Byte), portReady s →
    let u := heard s
    (48 ≤ b.toNat → exec (.slotPowerOn tag [b, 1]) s = .next (replied 0x0C tag (refuse .outOfRange) u) ∧
      exec (.slotPowerOff tag [b, 0]) s = .next (replied 0x0C tag (refuse .outOfRange) u)) ∧
    ∀ n : Fin 48, b.toNat = n →
      (∀ r, admissionCheck .host n u = some r →
        exec (.slotPowerOn tag [b, 1]) s = .next (replied 0x0C tag (refuseFor r) u)) ∧
      (admissionCheck .host n u = none → CommittedOk s → s.ulc.isQueued (isPowerOnFor n) = false →
        ∃ t, exec (.slotPowerOn tag [b, 1]) s = .next t ∧ t.mgp.reply = some (replyFrame 0x0C tag okEmpty) ∧
          t.slot n = { s.slot n with
            state := .energizing, shedReason := none, unconfirmed := false
            chargedInrush := some (s.slotCfg n).inrush } ∧ slotsKeptBut [n] s t ∧
          t.ldm.pComm = s.ldm.pComm + (s.slotCfg n).allocation ∧
          t.ldm.rampLevel = s.ldm.rampLevel + (s.slotCfg n).inrush ∧
          t.ldm.restoreList = s.ldm.restoreList.filter (· ≠ n) ∧ t.ldm.zones = s.ldm.zones ∧
          t.ulc.q0 = (s.ulc.q0.filter fun r => !isPowerFor n r) ∧
          t.ulc.q1 = (s.ulc.q1.filter fun r => !isPowerFor n r) ++ [⟨.slot n, .powerOn, none, .ldm, 0, false⟩] ∧
          t.brc = { s.brc with
            pAvailRead := if s.cfg.coverageRequired then s.rsv.pAvail else s.brc.pAvailRead } ∧
          changesOnly [.mgp, .ldm, .ulc, .brc] u t) ∧
      ((s.slot n).state = .off ∨ (s.slot n).state = .vacant ∨ (s.slot n).state = .isolated ∨ (s.slot n).state = .faulted →
        exec (.slotPowerOff tag [b, 0]) s = .next (replied 0x0C tag (refuse .state) u)) ∧
      ((s.slot n).state = .energizing ∨ (s.slot n).state = .on ∨ (s.slot n).state = .shed →
        ∃ t, exec (.slotPowerOff tag [b, 0]) s = .next t ∧ t.mgp.reply = some (replyFrame 0x0C tag okEmpty) ∧
          (t.slot n).state = .shed ∧ (t.slot n).shedReason = some .host ∧
          (t.slot n).unconfirmed = (s.slot n).unconfirmed ∧ slotsKeptBut [n] s t ∧
          t.ldm.pComm = committedLoad s.cfg t.ldm.slots ∧
          t.ldm.restoreList = (if (s.slot n).state = .shed then s.ldm.restoreList.filter (· ≠ n) else s.ldm.restoreList) ∧
          t.ulc.q0 = (s.ulc.q0.filter fun r => !isPowerFor n r) ++ [⟨.slot n, .powerOff, none, .ldm, 0, false⟩] ∧
          t.ulc.q1 = (s.ulc.q1.filter fun r => !isPowerFor n r) ∧
          (s.ulc.isQueued (isPowerOnFor n) = false → t.ldm.rampLevel = s.ldm.rampLevel) ∧
          changesOnly [.mgp, .ldm, .ulc, .seq] u t)

/-- R9: SLOT_CLEAR returns a FAULTED or SHED slot to OFF, or to VACANT with allocation 0: from FAULTED the overdraw count goes to 0; from SHED
the shed reason becomes absent, the slot leaves the Restore List and unconfirmed is kept; no call is sent and the queues stand. A
cleared slot whose unit's next answer still reports FAULT goes back to FAULTED. Any other state is refused with STATE, and a
slot number above 47 with OUT_OF_RANGE, at either level. -/
def Obligations.SlotCleared : Prop :=
  ∀ (s : State) (tag b : Byte), portReady s →
    (48 ≤ b.toNat → exec (.slotClear tag [b]) s = .next (replied 0x0D tag (refuse .outOfRange) (heard s))) ∧
    ∀ n : Fin 48, b.toNat = n →
      ((s.slot n).state ≠ .faulted → (s.slot n).state ≠ .shed →
        exec (.slotClear tag [b]) s = .next (replied 0x0D tag (refuse .state) (heard s))) ∧
      ((s.slot n).state = .faulted →
        ∃ t, exec (.slotClear tag [b]) s = .next t ∧ t.mgp.reply = some (replyFrame 0x0D tag okEmpty) ∧
          t.slot n = { s.slot n with
            state := if (s.slotCfg n).allocation = 0 then .vacant else .off, overdraw := 0 } ∧
          slotsKeptBut [n] s t ∧ t.ldm.restoreList = s.ldm.restoreList ∧ changesOnly [.mgp, .ldm] (heard s) t ∧
          ((s.slotCfg n).allocation ≠ 0 → ∀ chars hi lo, polled t (.slot n) chars 0x83 [3, hi, lo] →
            ∃ u, exec (.answerComplete chars) t = .next u ∧ (u.slot n).state = .faulted)) ∧
      ((s.slot n).state = .shed →
        ∃ t, exec (.slotClear tag [b]) s = .next t ∧ t.mgp.reply = some (replyFrame 0x0D tag okEmpty) ∧
          t.slot n = { s.slot n with
            state := if (s.slotCfg n).allocation = 0 then .vacant else .off, shedReason := none } ∧
          slotsKeptBut [n] s t ∧ t.ldm.restoreList = s.ldm.restoreList.filter (· ≠ n) ∧
          changesOnly [.mgp, .ldm] (heard s) t)

/-- R4, R5, R202: WRITE_SLOT stores the selected fields of one slot's settings, clamped, and leaves the others and every other slot's
settings; a reserved mask, a zone above 7 or a slot above 47 is refused with OUT_OF_RANGE, and a zone at SUPERVISE with WRONG_LEVEL.
A write that passes these checks during a commit is refused with BUSY (R194; that BUSY comes last is the model's order, log entry 19). The
slot's own state follows a written allocation and then a changed zone (their order in one write is the model's, log entry 12): P_comm stays the
committed load; a slot isolated from ENERGIZING, ON or SHED, and one seeded ISOLATED from a powered unit, has one POWER OFF and no POWER ON
queued, and otherwise the queues stand; a slot isolated leaves the Restore List. No zone record and no other slot changes. -/
def Obligations.SlotWritten : Prop :=
  ∀ (s : State) (tag b m a1 a0 i1 i0 zone cls rank : Byte), portReady s →
    let c := Instr.writeSlot tag [b, m, a1, a0, i1, i0, zone, cls, rank]
    let u := heard s
    (48 ≤ b.toNat ∨ m = 0 ∨ 31 < m.toNat → exec c s = .next (replied 0x0B tag (refuse .outOfRange) u)) ∧
    ∀ n : Fin 48, b.toNat = n → m ≠ 0 → m.toNat ≤ 31 →
      (m.getLsbD 2 = true → s.lvs.level = .supervise → exec c s = .next (replied 0x0B tag (refuse .wrongLevel) u)) ∧
      (m.getLsbD 2 = true → s.lvs.level = .configure → 8 ≤ zone.toNat →
        exec c s = .next (replied 0x0B tag (refuse .outOfRange) u)) ∧
      (m.getLsbD 2 = false ∨ s.lvs.level = .configure ∧ zone.toNat < 8 →
        (s.lvs.commit ≠ none → exec c s = .next (replied 0x0B tag (refuse .busy) u)) ∧
        (s.lvs.commit = none → ∃ t, exec c s = .next t ∧ t.lvs.dirty = true ∧
          (t.slotCfg n).allocation =
            (if m.getLsbD 0 then min 4000 (nat16 a1 a0) else (s.slotCfg n).allocation) ∧
          (t.slotCfg n).inrush = (if m.getLsbD 1 then min 8000 (nat16 i1 i0) else (s.slotCfg n).inrush) ∧
          ((t.slotCfg n).zone : Nat) = (if m.getLsbD 2 then zone.toNat else (s.slotCfg n).zone) ∧
          (t.slotCfg n).cls = (if m.getLsbD 3 then min 3 cls.toNat else (s.slotCfg n).cls) ∧
          (t.slotCfg n).rank = (if m.getLsbD 4 then rank.toNat else (s.slotCfg n).rank) ∧
          (∀ o, o ≠ n → t.slotCfg o = s.slotCfg o) ∧ slotsKeptBut [n] s t ∧ t.ldm.zones = s.ldm.zones ∧
          (CommittedOk s → CommittedOk t) ∧
          (let was := s.slot n
          let present := decide (s.presence (.slot n) = .present)
          let inOld := (s.zone (s.zoneOf n)).isolated
          let inNew := (s.zone (t.zoneOf n)).isolated
          let moved := t.zoneOf n ≠ s.zoneOf n
          let mid := if m.getLsbD 0 then afterAllocation (t.slotCfg n).allocation inOld present was.power was.state
            else was.state
          let cut := moved ∧ inNew = true ∧ (mid = .energizing ∨ mid = .on ∨ mid = .shed)
          let seeded := was.state = .vacant ∧ mid = .isolated ∧ (was.power = some .starting ∨ was.power = some .ready)
          (t.slot n).state = (if moved then afterZone (t.slotCfg n).allocation inOld inNew mid else mid) ∧
          (cut → t.ldm.restoreList = s.ldm.restoreList.filter (· ≠ n) ∧ (t.slot n).shedReason = none) ∧
          (¬ cut → t.ldm.restoreList = s.ldm.restoreList) ∧
          (cut ∨ seeded → t.ulc.q0.filter (isPowerFor n) = [⟨.slot n, .powerOff, none, .ldm, 0, false⟩] ∧
            t.ulc.q1.any (isPowerFor n) = false) ∧
          (¬ cut → ¬ seeded → t.ulc = s.ulc ∧ t.ldm.rampLevel = s.ldm.rampLevel)) ∧
          t.mgp.reply = some (replyFrame 0x0B tag ⟨.ok,
            (m.getLsbD 0 && decide (4000 < nat16 a1 a0)) || (m.getLsbD 1 && decide (8000 < nat16 i1 i0)) ||
              (m.getLsbD 3 && decide (3 < cls.toNat)), t.slotSettingsReply n⟩)))

/-- R139, R147: WRITE_LEAK stores the fields its mask selects, each number clamped to its range, for one channel alone, and keeps the others. A
DryThreshold above the WetThreshold in force after the request, written or kept, is stored equal to it. The reply carries the stored
settings, with CLAMPED where a selected number is not stored as it was sent or DryThreshold is lowered. The request is refused by its checks:
WRONG_LEVEL for the zone set at SUPERVISE, OUT_OF_RANGE for a channel above 7, a mask with no bit or its reserved bit set (R205), an empty
zone set, or a selected yes-or-no or enumerated byte outside its list (that a byte the mask does not select is not judged is the model's
choice, log entry 43), and BUSY during a commit (R194; BUSY last is the model's order, log entry 19). LEAK_ACK takes a LATCHED channel to
DRY, is refused with STILL_WET in CONFIRMED, takes the prior-wet mark from an OPEN_FAULT that has it, and is refused with STATE
otherwise. -/
def Obligations.LeakRequests : Prop :=
  (∀ (s : State) (tag b m1 m0 : Byte) (fields : List Byte) (f : LeakFields), portReady s →
    leakFieldsOf fields = some f →
    let c := Instr.writeLeak tag ([b, m1, m0] ++ fields)
    let u := heard s
    (m0.getLsbD 2 = true → s.lvs.level = .supervise → exec c s = .next (replied 0x1E tag (refuse .wrongLevel) u)) ∧
    (m0.getLsbD 2 = false ∨ s.lvs.level = .configure →
      (8 ≤ b.toNat ∨ nat16 m1 m0 = 0 ∨ m1.getLsbD 7 = true → exec c s = .next (replied 0x1E tag (refuse .outOfRange) u)) ∧
      ∀ ch : Fin 8, b.toNat = ch → nat16 m1 m0 ≠ 0 → m1.getLsbD 7 = false →
        let sel := (nat16 m1 m0).testBit
        let outside := (sel 0 = true ∧ 1 < f.enabled.toNat) ∨ (sel 1 = true ∧ 1 < f.kind.toNat) ∨
          (sel 2 = true ∧ f.zoneSet = 0) ∨ (sel 3 = true ∧ 2 < f.policy.toNat) ∨
          (sel 4 = true ∧ 1 < f.openPolicy.toNat) ∨ (sel 11 = true ∧ 1 < f.pulseWidth.toNat)
        (outside → exec c s = .next (replied 0x1E tag (refuse .outOfRange) u)) ∧
        (¬ outside → s.lvs.commit ≠ none → exec c s = .next (replied 0x1E tag (refuse .busy) u)) ∧
        (¬ outside → s.lvs.commit = none → ∃ t, exec c s = .next t ∧ t.lvs.dirty = true ∧
          (let old := s.leakCfg ch
          let new := t.leakCfg ch
          let number := fun (i lo hi sent kept : Nat) => if sel i then max lo (min hi sent) else kept
          let wet := number 5 1 10000 f.wetThreshold old.wetThreshold
          let dry := number 6 0 10000 f.dryThreshold old.dryThreshold
          new.enabled = (if sel 0 then f.enabled == 1 else old.enabled) ∧
          new.kind.ctorIdx = (if sel 1 then f.kind.toNat else old.kind.ctorIdx) ∧
          new.zoneSet = (if sel 2 then f.zoneSet else old.zoneSet) ∧
          new.policy.ctorIdx = (if sel 3 then f.policy.toNat else old.policy.ctorIdx) ∧
          new.openPolicy.ctorIdx = (if sel 4 then f.openPolicy.toNat else old.openPolicy.ctorIdx) ∧
          new.wetThreshold = wet ∧ new.dryThreshold = min dry wet ∧
          new.wetCount = number 7 1 255 f.wetCount old.wetCount ∧ new.dryCount = number 8 1 1000 f.dryCount old.dryCount ∧
          new.openCount = number 9 1 255 f.openCount old.openCount ∧
          new.isolateDelayMs = number 10 0 10000 f.isolateDelayMs old.isolateDelayMs ∧
          new.pulseWidth.ctorIdx = (if sel 11 then f.pulseWidth.toNat else old.pulseWidth.ctorIdx) ∧
          new.rlead = number 12 0 65535 f.rlead old.rlead ∧ new.rpm = number 13 1 65535 f.rpm old.rpm ∧
          new.ropeLengthCm = number 14 0 6000 f.ropeLengthCm old.ropeLengthCm ∧
          ((t.channel ch).state = .disabled ↔ new.enabled = false) ∧
          t.mgp.reply = some (replyFrame 0x1E tag ⟨.ok, decide (wet < dry) ||
            ([(5, f.wetThreshold, new.wetThreshold), (6, f.dryThreshold, new.dryThreshold), (7, f.wetCount, new.wetCount),
              (8, f.dryCount, new.dryCount), (9, f.openCount, new.openCount), (10, f.isolateDelayMs, new.isolateDelayMs),
              (12, f.rlead, new.rlead), (13, f.rpm, new.rpm), (14, f.ropeLengthCm, new.ropeLengthCm)] :
                List (Nat × Nat × Nat)).any (fun x => sel x.1 && x.2.1 != x.2.2), t.leakSettingsReply ch⟩)) ∧
          ∀ o, o ≠ ch → t.leakCfg o = s.leakCfg o ∧ t.channel o = s.channel o))) ∧
  ∀ (s : State) (tag b : Byte), portReady s →
    (8 ≤ b.toNat → exec (.leakAck tag [b]) s = .next (replied 0x1F tag (refuse .outOfRange) (heard s))) ∧
    ∀ c : Fin 8, b.toNat = c →
      ((s.channel c).state = .latched → ∃ t, exec (.leakAck tag [b]) s = .next t ∧
        t.channel c = { s.channel c with state := .dry, runClass := none, runCount := 0, location := none } ∧
        t.mgp.reply = some (replyFrame 0x1F tag okEmpty) ∧ t.ldm.slots = s.ldm.slots) ∧
      ((s.channel c).state = .confirmed →
        exec (.leakAck tag [b]) s = .next (replied 0x1F tag (refuse .stillWet) (heard s))) ∧
      ((s.channel c).state = .openFault → (s.channel c).priorWet = true → ∃ t, exec (.leakAck tag [b]) s = .next t ∧
        t.channel c = { s.channel c with priorWet := false, location := none } ∧
        t.mgp.reply = some (replyFrame 0x1F tag okEmpty) ∧ t.ldm.slots = s.ldm.slots) ∧
      ((s.channel c).state = .dry ∨ (s.channel c).state = .suspect ∨ (s.channel c).state = .disabled ∨
          ((s.channel c).state = .openFault ∧ (s.channel c).priorWet = false) →
        exec (.leakAck tag [b]) s = .next (replied 0x1F tag (refuse .state) (heard s)))

/-! ## Rectifier requests -/

/-- R42 to R45: RECTIFIER_ENABLE, RECTIFIER_DISABLE and RECTIFIER_CLEAR by the module's state: what each refuses, what it writes in the record,
and the MODULE call it places at the tail of Q1 in place of any other queued one for the module. That RECTIFIER_CLEAR's ENABLE carries the mark of a retry
is the model's (log entry 28). -/
def Obligations.RectifierRequests : Prop :=
  ∀ (s : State) (tag b : Byte), portReady s → CapacityOk s →
    let u := heard s
    let queued := fun (k : Fin 6) (kind : CommandKind) (retry : Bool) =>
      (s.ulc.q1.filter fun r => !isModuleCallFor k r) ++ [(⟨.rectifier k, kind, none, .rsv, 0, retry⟩ : CommandRecord)]
    (6 ≤ b.toNat → exec (.rectifierEnable tag [b]) s = .next (replied 0x18 tag (refuse .outOfRange) u) ∧
      exec (.rectifierDisable tag [b]) s = .next (replied 0x19 tag (refuse .outOfRange) u) ∧
      exec (.rectifierClear tag [b]) s = .next (replied 0x1A tag (refuse .outOfRange) u)) ∧
    ∀ k : Fin 6, b.toNat = k →
      let r := s.rect k
      (r.state = .lockedOut → exec (.rectifierEnable tag [b]) s = .next (replied 0x18 tag (refuse .state) u)) ∧
      (r.state = .faulted → r.retryPhase ≠ none → exec (.rectifierEnable tag [b]) s = .next (replied 0x18 tag okEmpty u)) ∧
      (r.state = .faulted → r.retryPhase = none → ∃ t, exec (.rectifierEnable tag [b]) s = .next t ∧
        t.mgp.reply = some (replyFrame 0x18 tag okEmpty) ∧ rectsKeptBut k s t ∧ t.rect k = { r with
          adminDisabled := false, retryPhase := some .delay, retryTimer := some s.cfg.retryDelayMs } ∧
        changesOnly [.mgp, .rsv] u t) ∧
      (r.state = .absent → ∃ t, exec (.rectifierEnable tag [b]) s = .next t ∧
        t.mgp.reply = some (replyFrame 0x18 tag okEmpty) ∧ rectsKeptBut k s t ∧
        t.rect k = { r with adminDisabled := false } ∧ changesOnly [.mgp, .rsv] u t) ∧
      (r.state = .online ∨ r.state = .derated ∨ r.state = .standby ∨ r.state = .inputLost →
        (s.roomInQ1 = false → exec (.rectifierEnable tag [b]) s = .next (replied 0x18 tag (refuse .busy) u)) ∧
        (s.roomInQ1 = true → ∃ t, exec (.rectifierEnable tag [b]) s = .next t ∧
          t.mgp.reply = some (replyFrame 0x18 tag okEmpty) ∧ rectsKeptBut k s t ∧
          t.rect k = { r with adminDisabled := false } ∧ t.ulc.q1 = queued k .enable false ∧ t.rsv.pAvail = s.rsv.pAvail ∧
          changesOnly [.mgp, .rsv, .ulc] u t)) ∧
      (r.state = .online ∨ r.state = .derated → s.capacityWithout k < s.ldm.pComm →
        exec (.rectifierDisable tag [b]) s = .next (replied 0x19 tag (refuseFor .capacity) u)) ∧
      (((r.state ≠ .online ∧ r.state ≠ .derated) ∨ s.ldm.pComm ≤ s.capacityWithout k) →
        (r.state ≠ .absent → s.roomInQ1 = false →
          exec (.rectifierDisable tag [b]) s = .next (replied 0x19 tag (refuse .busy) u)) ∧
        (r.state = .absent ∨ s.roomInQ1 = true → ∃ t, exec (.rectifierDisable tag [b]) s = .next t ∧
          t.mgp.reply = some (replyFrame 0x19 tag okEmpty) ∧ rectsKeptBut k s t ∧
          t.rect k = (if r.state = .faulted then
            { r with adminDisabled := true, retryPhase := none, retryTimer := none } else { r with adminDisabled := true }) ∧
          t.ulc.q1 = (if r.state = .absent then s.ulc.q1 else queued k .disable false) ∧ t.rsv.pAvail = s.rsv.pAvail ∧
          changesOnly [.mgp, .rsv, .ulc] u t)) ∧
      (((r.state = .lockedOut ∧ r.adminDisabled = false) ∨
          (r.state = .faulted ∧ (r.retryPhase = some .delay ∨ r.retryPhase = some .due))) →
        (s.roomInQ1 = false → exec (.rectifierClear tag [b]) s = .next (replied 0x1A tag (refuse .busy) u)) ∧
        (s.roomInQ1 = true → ∃ t, exec (.rectifierClear tag [b]) s = .next t ∧
          t.mgp.reply = some (replyFrame 0x1A tag okEmpty) ∧ rectsKeptBut k s t ∧ t.rect k = { r with
            state := .faulted, retryCount := 0, retryPhase := some .enabling, retryTimer := none } ∧
          t.ulc.q1 = queued k .enable true ∧ changesOnly [.mgp, .rsv, .ulc, .nq] u t)) ∧
      (r.state = .lockedOut → r.adminDisabled = true → ∃ t, exec (.rectifierClear tag [b]) s = .next t ∧
        t.mgp.reply = some (replyFrame 0x1A tag okEmpty) ∧ rectsKeptBut k s t ∧
        t.rect k = { r with state := .faulted, retryCount := 0, retryPhase := none } ∧
        changesOnly [.mgp, .rsv, .nq] u t) ∧
      (r.state ≠ .lockedOut → (r.state = .faulted → r.retryPhase ≠ some .delay ∧ r.retryPhase ≠ some .due) →
        ∃ t, exec (.rectifierClear tag [b]) s = .next t ∧ t.mgp.reply = some (replyFrame 0x1A tag okEmpty) ∧
          rectsKeptBut k s t ∧ t.rect k = { r with retryCount := 0 } ∧ changesOnly [.mgp, .rsv] u t)

/-! ## The Unit Link -/

/-- R23, R24, R123, R133, R159 to R161, R164, R172: the outcome of a command transaction. A good answer completes a POWER call at its slot. An unanswered
call goes back to the head of its queue with its tries raised while they allow; where a newer POWER call for its slot is queued it is
withdrawn instead, and neither queue nor any slot changes. With its tries at CmdRetries it fails: an ENERGIZING slot whose POWER ON has failed
goes to OFF, or to VACANT with allocation 0, and a slot whose POWER OFF has failed is unconfirmed. Jabber that marks the target QUIET
fails it with cause QUIET. Every outcome of a POWER ON goes on to the sequencer: the acknowledged mark, the end of a restore run's wait, and the test of the
await condition, which judges the slots' present states (the model's choice, log entry 45). -/
def Obligations.CommandOutcomes : Prop :=
  ∀ (s : State) (cmd : CommandRecord), s.ulc.transaction = some (.command cmd) →
    (∀ chars a n, s.ulc.line = .answer → (Transaction.command cmd).judge chars = .good a → cmd.target = .slot n →
      ∃ t, exec (.answerComplete chars) s = .next t ∧ t.ulc.line = .guarded ∧ t.ulc.transaction = none ∧
        slotsKeptBut [n] s t ∧ t.ldm.restoreList = s.ldm.restoreList ∧ t.ulc.q0 = s.ulc.q0 ∧ t.ulc.q1 = s.ulc.q1 ∧
        (cmd.kind = .powerOn → OutcomeReported (a.kind == 0xA0) n s t) ∧
        (cmd.kind = .powerOn → a.kind = 0xA0 → t.slot n = s.slot n) ∧
        (cmd.kind = .powerOn → a.kind = 0xA1 → t.slot n =
          if (s.slot n).state = .energizing then { s.slot n with state := .faulted } else s.slot n) ∧
        (cmd.kind = .powerOff → a.kind = 0xA0 → t.slot n = { s.slot n with unconfirmed := false }) ∧
        (cmd.kind = .powerOff → a.kind = 0xA1 → t.slot n = { s.slot n with unconfirmed := true } ∧
          ∃ data, t.nq = (post .powerOffFailed n data s).nq)) ∧
    (∀ cause n, s.ulc.line = .answer → cmd.target = .slot n →
      ∃ t, exec (.jabberInAnswer cause) s = .next t ∧ t.ulc.line = .guarded ∧ t.ulc.transaction = none ∧
        t.presence (.slot n) = .quiet ∧ t.ulc.isQueued (isPowerFor n) = false ∧ slotsKeptBut [n] s t ∧
        (cmd.kind = .powerOn → (s.slot n).state = .energizing →
          (t.slot n).state = if (s.slotCfg n).allocation = 0 then .vacant else .off) ∧
        (cmd.kind = .powerOff → (t.slot n).unconfirmed = true)) ∧
    ∀ c, unanswered s (.command cmd) c →
      (cmd.tries < s.cfg.cmdRetries → s.superseded cmd = false →
        ∃ t, exec c s = .next t ∧ t.ulc.line = .guarded ∧ t.ulc.transaction = none ∧
          t.ulc.q0 = (if cmd.kind = .powerOff then { cmd with tries := cmd.tries + 1 } :: s.ulc.q0 else s.ulc.q0) ∧
          t.ulc.q1 = (if cmd.kind = .powerOff then s.ulc.q1 else { cmd with tries := cmd.tries + 1 } :: s.ulc.q1) ∧
          changesOnly [.ulc] s t) ∧
      (∀ n, cmd.tries < s.cfg.cmdRetries → cmd.target = .slot n → cmd.kind = .powerOn ∨ cmd.kind = .powerOff →
        s.ulc.isQueued (isPowerFor n) = true →
        ∃ t, exec c s = .next t ∧ t.ulc.line = .guarded ∧ t.ulc.transaction = none ∧ t.ulc.q0 = s.ulc.q0 ∧
          t.ulc.q1 = s.ulc.q1 ∧ changesOnly [.seq, .ulc] s t ∧ (cmd.kind = .powerOff → t.seq = s.seq) ∧
          (cmd.kind = .powerOn → t.seq.admitted = s.seq.admitted ∧ t.seq.restore = s.seq.restore)) ∧
      (s.cfg.cmdRetries ≤ cmd.tries → ∀ n, cmd.target = .slot n → cmd.kind = .powerOn ∨ cmd.kind = .powerOff →
        ∃ t, exec c s = .next t ∧ t.ulc.line = .guarded ∧ t.ulc.transaction = none ∧ t.ulc.q0 = s.ulc.q0 ∧
          t.ulc.q1 = s.ulc.q1 ∧ slotsKeptBut [n] s t ∧
          (cmd.kind = .powerOn → OutcomeReported false n s t) ∧
          (cmd.kind = .powerOn → (s.slot n).state = .energizing →
            (t.slot n).state = (if (s.slotCfg n).allocation = 0 then .vacant else .off) ∧
            ∃ data, t.nq = (post .powerOnFailed n data s).nq) ∧
          (cmd.kind = .powerOn → (s.slot n).state ≠ .energizing → t.slot n = s.slot n ∧ t.nq = s.nq) ∧
          (cmd.kind = .powerOff → t.slot n = { s.slot n with unconfirmed := true } ∧ t.seq = s.seq ∧
            ∃ data, t.nq = (post .powerOffFailed n data s).nq))

/-- R84, R86 to R88: the outcome of a TEST_LOAD call at the impedance test context, for a context that stands on the call's module. In
LOADING an acknowledged ON begins SETTLE and a failed one aborts the test with cause CALL_FAILED; in RELEASING an acknowledged OFF
begins RELEASE_SETTLE and a failed one aborts with RELEASE_FAILED; in CLOSING an acknowledged ON has the load released, or owed (the load is
then marked acknowledged, log entry 39: the model's choice), a failed ON or an acknowledged OFF ends the context, and a failed OFF does so
with TEST_RELEASE_FAILED. A call of a module on which no context stands changes nothing of the Battery Monitor.
R39, R42: the outcome of a MODULE call at its rectifier. A retry's ENABLE that is acknowledged begins the TRIAL, or is owed again where
the feed phase is not PRESENT; one that fails ends the retry, which waits out the delay again or locks the module out. Any other MODULE
call changes no record, and its failure posts RECTIFIER_CALL_FAILED with its cause. The model's own: the mark that tells a retry's ENABLE, and that
its outcome outside ENABLING does nothing and posts nothing (log entry 28); that a TEST_LOAD outcome acts for a context on its own module alone, and
that a context which ends has no release owed (log entry 22). -/
def Obligations.ModuleAndTestCallOutcomes : Prop :=
  (∀ (s : State) (cmd : CommandRecord) (k : Fin 6) (c : Instr), cmd.target = .rectifier k → CapacityOk s →
    (cmd.kind = .enable ∨ cmd.kind = .disable) →
    let enabling := cmd.retry = true ∧ (s.rect k).state = .faulted ∧ (s.rect k).retryPhase = some .enabling
    (callAcked s cmd c → ∃ t, exec c s = .next t ∧ t.ulc.line = .guarded ∧ t.ulc.transaction = none ∧
      changesOnly [.rsv, .ulc] s t ∧ rectsKeptBut k s t ∧ t.rect k =
        if enabling then
          if s.fed k = true then { s.rect k with retryPhase := some .trial, retryTimer := some s.cfg.retryDelayMs }
          else { s.rect k with retryPhase := some .due, retryTimer := none }
        else s.rect k) ∧
    ∀ cause, callFails s cmd c cause → ∃ t, exec c s = .next t ∧ t.ulc.line = .guarded ∧ t.ulc.transaction = none ∧
      changesOnly [.rsv, .ulc, .nq] s t ∧ rectsKeptBut k s t ∧
      (enabling → t.rect k = if (s.rect k).retryCount < s.cfg.retryLimit then
          { s.rect k with retryPhase := some .delay, retryTimer := some s.cfg.retryDelayMs }
        else { s.rect k with state := .lockedOut, retryPhase := none, retryTimer := none }) ∧
      (¬ enabling → t.rect k = s.rect k) ∧ (cmd.retry = true → ¬ enabling → t.nq = s.nq) ∧
      (cmd.retry = false →
        t.nq = (post .rectifierCallFailed k (u8 (if cmd.kind = .enable then 0 else 1) ++ u8 cause) s).nq)) ∧
  ∀ (s : State) (cmd : CommandRecord) (i : Fin 4) (c : Instr), cmd.target = .battery i →
    (cmd.kind = .testLoadOn ∨ cmd.kind = .testLoadOff) →
    let off : CommandRecord := ⟨.battery i, .testLoadOff, none, .bmn, 0, false⟩
    let ended := fun t : State => t.bmn.test.phase = .idle ∧ t.bmn.test.module = none ∧ t.bmn.test.releaseOwed = false
    let aborted := fun (t : State) (cause : AbortCause) => ended t ∧ (t.batt i).state = .online ∧
      (t.batt i).latest = some ⟨.aborted, some cause, none, none⟩ ∧ (t.batt i).resistance = (s.batt i).resistance ∧
      battsKeptBut i s t ∧ changesOnly [.bmn, .ulc, .nq] s t
    (callAcked s cmd c → ∃ t, exec c s = .next t ∧ t.ulc.line = .guarded ∧ t.ulc.transaction = none ∧ t.ulc.q0 = s.ulc.q0 ∧
      t.bmn.batts = s.bmn.batts ∧ changesOnly [.bmn, .ulc] s t ∧
      (s.bmn.test.module ≠ some i → t.bmn = s.bmn ∧ t.ulc.q1 = s.ulc.q1) ∧
      (s.bmn.test.module = some i →
        (cmd.kind = .testLoadOn → s.bmn.test.phase = .loading → t.ulc.q1 = s.ulc.q1 ∧
          t.bmn.test = { s.bmn.test with loadAcked := true, phase := .settle, count := 0 }) ∧
        (cmd.kind = .testLoadOn → s.bmn.test.phase = .closing →
          t.bmn.test = { s.bmn.test with loadAcked := true, releaseOwed := decide (64 ≤ s.ulc.q1.length) } ∧
          t.ulc.q1 = if s.ulc.q1.length < 64 then s.ulc.q1 ++ [off] else s.ulc.q1) ∧
        (cmd.kind = .testLoadOff → s.bmn.test.phase = .releasing → t.ulc.q1 = s.ulc.q1 ∧
          t.bmn.test = { s.bmn.test with phase := .releaseSettle, count := 0 }) ∧
        (cmd.kind = .testLoadOff → s.bmn.test.phase = .closing → ended t ∧ t.ulc.q1 = s.ulc.q1))) ∧
    ∀ cause, callFails s cmd c cause → ∃ t, exec c s = .next t ∧ t.ulc.line = .guarded ∧ t.ulc.transaction = none ∧
      t.ulc.q0 = s.ulc.q0 ∧ t.ulc.q1 = s.ulc.q1 ∧
      (s.bmn.test.module ≠ some i → changesOnly [.ulc] s t) ∧
      (s.bmn.test.module = some i →
        (cmd.kind = .testLoadOn → s.bmn.test.phase = .loading → aborted t .callFailed) ∧
        (cmd.kind = .testLoadOff → s.bmn.test.phase = .releasing → aborted t .releaseFailed) ∧
        (cmd.kind = .testLoadOn → s.bmn.test.phase = .closing → ended t ∧ t.bmn.batts = s.bmn.batts ∧
          changesOnly [.bmn, .ulc] s t) ∧
        (cmd.kind = .testLoadOff → s.bmn.test.phase = .closing → ended t ∧ t.bmn.batts = s.bmn.batts ∧
          t.nq = (post .testReleaseFailed i [] s).nq ∧ changesOnly [.bmn, .ulc, .nq] s t))

/-- R155, R156, R159 to R161: the line's own events. A call's end returns the driven line to rest and starts the response timer, but for
a broadcast, which ends at once; the first character of an answer stops the timer; a rest of the line returns GUARD to IDLE with the
divider settings in force; a character outside a transaction takes IDLE to GUARD; LINK_JABBER is posted once for a run of activity. With no bits
of a call to send the part drives rest, which is 1. That an event which finds no occasion changes nothing is the model's (log entry 6), as
is the moment at which each is taken (log entry 34). -/
def Obligations.LineEvents : Prop :=
  ∀ s : State,
    (∀ t, s.ulc.line = .call → s.ulc.transaction = some t → (∀ p, t ≠ .pass 0 p) →
      exec .callEnd s = .next { s with ulc := { s.ulc with
        line := .wait, sending := [], responseTimer := some (4 * (s.cfg.responseTimeoutCode + 1)) } }) ∧
    (∀ p r, s.ulc.line = .call → s.ulc.transaction = some (.pass 0 p) → s.mgp.pending = .deferred r →
      ∃ t, exec .callEnd s = .next t ∧ t.ulc.line = .guarded ∧ t.ulc.transaction = none ∧ t.ulc.pass = none ∧
        t.ulc.sending = [] ∧ t.mgp.reply = some (replyFrame r.kind r.tag okEmpty) ∧ t.mgp.pending = .free ∧
        changesOnly [.mgp, .ulc] s t) ∧
    (s.ulc.sending = [] → ∀ bit, s.ulc.level bit = true) ∧
    (s.ulc.line ≠ .call → exec .callEnd s = .next s) ∧
    (s.ulc.line = .wait → exec .answerFirstCharacter s =
      .next { s with ulc := { s.ulc with line := .answer, responseTimer := none } }) ∧
    (s.ulc.line ≠ .wait → exec .answerFirstCharacter s = .next s ∧ exec .responseTimeout s = .next s) ∧
    (s.ulc.line ≠ .answer → exec .answerGapTimeout s = .next s ∧ (∀ chars, exec (.answerComplete chars) s = .next s) ∧
      ∀ cause, exec (.jabberInAnswer cause) s = .next s) ∧
    (s.ulc.line = .guarded → exec .lineIdle s = .next { s with ulc := { s.ulc with
      line := .idle, jabberPosted := false, divN := s.cfg.linkDivN, divK := s.cfg.linkDivK } }) ∧
    (s.ulc.line ≠ .guarded → exec .lineIdle s = .next s) ∧
    (s.ulc.line = .idle → exec .characterOutsideTransaction s = .next { s with ulc := { s.ulc with line := .guarded } }) ∧
    (s.ulc.line ≠ .idle → exec .characterOutsideTransaction s = .next s) ∧
    (s.ulc.line = .idle ∨ s.ulc.line = .guarded → s.ulc.jabberPosted = false → exec .linkJabber s =
      .next (post .linkJabber 0 [] { s with ulc := { s.ulc with line := .guarded, jabberPosted := true } })) ∧
    (s.ulc.jabberPosted = true → exec .linkJabber s = .next s)

/-- R6, R34, R36, R70, R71, R163: the good STATUS answer, to a poll or a call of discovery, that makes an UNKNOWN or MISSING unit PRESENT:
misses 0, UNIT_PRESENCE posted first, and its owner's record taken from the answer. A VACANT slot takes its draw, its unit power and
the state its unit calls for, with a POWER OFF where it is seeded ISOLATED from a powered unit; an ABSENT rectifier goes to INPUT_LOST, or by the table
of R35 where its feed phase is PRESENT; a battery module is seeded with its charge, DefaultR and its state, the depleted marking
made. The answer of a QUIET unit changes no presence. -/
def Obligations.UnitBecomesPresent : Prop :=
  ∀ (s : State) (x : UnitId) (tr : Transaction) (chars : List LineChar) (a : Answer), s.ulc.line = .answer →
    s.ulc.transaction = some tr → isStatusOf x tr → tr.judge chars = .good a →
    (s.presence x = .quiet → ∃ t, exec (.answerComplete chars) s = .next t ∧ t.ulc.units = s.ulc.units) ∧
    (s.presence x = .unknown ∨ s.presence x = .missing →
      ∃ t, exec (.answerComplete chars) s = .next t ∧ t.ulc.line = .guarded ∧ t.ulc.transaction = none ∧
        t.ulc.units.get x = { s.ulc.units.get x with presence := .present, misses := 0 } ∧
        (∀ y, y ≠ x → t.ulc.units.get y = s.ulc.units.get y) ∧
        (post .unitPresence 0 (u8 x.address ++ u8 (s.presence x).code ++ u8 1) s).nq.notices <+: t.nq.notices ∧
        (∀ n power hi lo p, x = .slot n → a.payload = [power, hi, lo] → power.toNat = p.ctorIdx → (s.slot n).state = .vacant →
          (t.slot n).draw = some (hi.toNat * 256 + lo.toNat) ∧ (t.slot n).power = some p ∧ slotsKeptBut [n] s t ∧
          (t.slot n).state = slotAfter (s.slotCfg n).allocation (s.zone (s.zoneOf n)).isolated .vacant p ∧
          if (t.slot n).state = .isolated ∧ (p = .starting ∨ p = .ready) then
            t.ulc.q0.filter (isPowerFor n) = [⟨.slot n, .powerOff, none, .ldm, 0, false⟩] ∧
              t.ulc.q1.any (isPowerFor n) = false
          else t.ulc.q0 = s.ulc.q0 ∧ t.ulc.q1 = s.ulc.q1) ∧
        (∀ k flags code derate, x = .rectifier k → a.payload = [flags, code, derate] → (s.rect k).state = .absent →
          (t.rect k).derate = min 16 derate.toNat ∧ (t.rect k).retryCount = (s.rect k).retryCount ∧
          (∀ j, j ≠ k → (t.rect j).state = (s.rect j).state) ∧ (t.rect k).state = if s.fed k = true then
            rectifierAfter (s.rect k) s.cfg.retryLimit (min 16 derate.toNat)
              (RectifierAnswer.cls ⟨flags.getLsbD 0, flags.getLsbD 1, code, derate.toNat⟩ (s.rect k).adminDisabled)
            else .inputLost) ∧
        (∀ i percent flags, x = .battery i → a.payload = [percent, flags] →
          let cap := s.cfg.batteryCapacity[i]
          let q := if flags.getLsbD 0 then cap else cap * min 100 percent.toNat / 100
          battsKeptBut i s t ∧ t.batt i = { s.batt i with
            seeded := true, q := q, r := 0, resistance := s.cfg.defaultR, measuredAt := none
            percent := some (min 100 percent.toNat), full := flags.getLsbD 0, cutoff := flags.getLsbD 1
            reportedFault := flags.getLsbD 2
            state := if flags.getLsbD 2 then .faulted
              else if s.bmn.lastBridge = .bridging ∧ (q ≤ cap * s.cfg.reservePct / 100 ∨ flags.getLsbD 1 = true) then
                .depleted
              else .online }))

/-- R161a, R164, R173, R198: start-up discovery. A grant on the free line with no call in Q0, and under COMMANDS_FIRST none in Q1 and no
pass-through waiting, calls the unit whose turn it is. A call without an answer counts a miss of its unit, and the turn goes to the next unit in
ascending address that is not QUIET; after the last one discovery ends: STARTED is posted with COLD, the settings flag, StartLevel and the
counts of PRESENT units, StartLevel is entered, an empty Poll Table taking its default and the start-up plan being promoted on an entry into
SUPERVISE, the start-up sequence is over and the cycle timer starts. -/
def Obligations.DiscoveryAdvances : Prop :=
  (∀ (s : State) (k : Nat) (x : UnitId), s.ulc.line = .idle → s.ulc.discovery = some k → allUnits[k]? = some x →
    s.isQuiet x = false → (∀ r ∈ s.ulc.q0 ++ s.ulc.q1, s.isQuiet r.target = false) → s.ulc.cycleRunning = false →
    s.ulc.startPending = false → s.ulc.q0 = [] →
    (s.cfg.arbiterStrategy = .commandsFirst → s.ulc.q1 = [] ∧ s.ulc.pass = none) →
    exec .lineGrant s = .next { s with ulc := { s.ulc with
      line := .call, transaction := some (.discovery x), sending := (Transaction.discovery x).callBits } }) ∧
  ∀ (s : State) (k : Nat) (x : UnitId) (c : Instr), s.ulc.transaction = some (.discovery x) → s.ulc.discovery = some k →
    unanswered s (.discovery x) c → s.presence x = .unknown → (s.ulc.units.get x).misses < 2 →
    (∀ j y, k < j → allUnits[j]? = some y → s.isQuiet y = false →
      (∀ h z, k < h → h < j → allUnits[h]? = some z → s.isQuiet z = true) →
      ∃ t, exec c s = .next t ∧ t.ulc.line = .guarded ∧ t.ulc.transaction = none ∧ t.ulc.discovery = some j ∧
        t.ulc.units.get x = { s.ulc.units.get x with misses := (s.ulc.units.get x).misses + 1 } ∧ changesOnly [.ulc] s t) ∧
    ((∀ h z, k < h → allUnits[h]? = some z → s.isQuiet z = true) →
      ∃ t, exec c s = .next t ∧ t.ulc.line = .guarded ∧ t.ulc.discovery = none ∧
        t.ulc.cycleTimer = some s.cfg.pollCycleMs ∧ t.lvs.level = s.cfg.startLevel ∧ t.lvs.startingUp = false ∧
        t.cfg = { s.cfg with pollTable :=
          if s.cfg.startLevel = .supervise ∧ s.cfg.pollTable = [] then defaultPollTable else s.cfg.pollTable } ∧
        (∀ y, y ≠ x → t.ulc.units.get y = s.ulc.units.get y) ∧
        (post .started 0 ([0] ++ flagByte s.lvs.defaulted ++ u8 s.cfg.startLevel.code ++
          u8 ((List.finRange 6).filter fun k => s.presence (.rectifier k) = .present).length ++
          u8 ((List.finRange 4).filter fun i => s.presence (.battery i) = .present).length ++
          u8 ((List.finRange 48).filter fun n => s.presence (.slot n) = .present).length) s).nq.notices <+: t.nq.notices ∧
        (s.cfg.startLevel = .configure → t.seq = s.seq) ∧
        ∀ p, s.cfg.startLevel = .supervise → s.lvs.supervised = false → s.seq.staged = .ready p →
          s.seq.startupStaged = true → s.seq.state = .idle → t.seq.active = some p ∧ t.seq.staged = .empty)

/-- R6, R34, R69, R87, R161, R163, R164: a PRESENT unit's poll that is not answered, in each of its ways, counts a miss, and the third takes
the unit to MISSING: UNIT_PRESENCE is posted first, a slot goes to VACANT off the Restore List with no POWER call left queued, a rectifier
to ABSENT with its retry count kept, and a battery module to ABSENT, a test on it aborted with cause MISSING. Jabber in an answer marks the unit
QUIET with its presence kept as the prior one: UNIT_PRESENCE is posted, its queued calls fail, and UNIT_QUIET is posted (the order
is the model's, log entry 15). -/
def Obligations.PollsMissed : Prop :=
  ∀ (s : State) (x : UnitId) (live : Bool), s.ulc.transaction = some (.poll x live) → s.presence x = .present →
    (∀ c, unanswered s (.poll x live) c →
      ((s.ulc.units.get x).misses < 2 → ∃ t, exec c s = .next t ∧ t.ulc.line = .guarded ∧ t.ulc.transaction = none ∧
        t.ulc.units.get x = { s.ulc.units.get x with misses := (s.ulc.units.get x).misses + 1 } ∧
        (∀ y, y ≠ x → t.ulc.units.get y = s.ulc.units.get y) ∧ changesOnly [.ulc] s t) ∧
      (2 ≤ (s.ulc.units.get x).misses → ∃ t, exec c s = .next t ∧ t.ulc.line = .guarded ∧ t.ulc.transaction = none ∧
        t.ulc.units.get x = { s.ulc.units.get x with presence := .missing, misses := 3 } ∧
        (∀ y, y ≠ x → t.ulc.units.get y = s.ulc.units.get y) ∧
        (post .unitPresence 0 (u8 x.address ++ u8 1 ++ u8 2) s).nq.notices <+: t.nq.notices ∧
        (∀ n, x = .slot n → (t.slot n).state = .vacant ∧ (t.slot n).draw = none ∧ (t.slot n).power = none ∧
          (t.slot n).overdraw = 0 ∧ (t.slot n).shedReason = none ∧ (t.slot n).unconfirmed = false ∧
          n ∉ t.ldm.restoreList ∧ t.ulc.isQueued (isPowerFor n) = false ∧ slotsKeptBut [n] s t) ∧
        (∀ k, x = .rectifier k → (t.rect k).state = .absent ∧ (t.rect k).runTime = 0 ∧ (t.rect k).retryPhase = none ∧
          (t.rect k).retryCount = (s.rect k).retryCount ∧ t.ulc.isQueued (isModuleCallFor k) = false) ∧
        (∀ i, x = .battery i → (t.batt i).state = .absent ∧ (t.batt i).seeded = false ∧ (t.batt i).percent = none ∧
          (t.batt i).tempFault = false ∧ (t.batt i).outCount = 0 ∧ (t.batt i).inCount = 0 ∧
          (t.batt i).q = (s.batt i).q ∧ battsKeptBut i s t ∧ t.ulc.isQueued (isTestLoadFor i) = false ∧
          (s.bmn.test.module = some i → s.bmn.test.phase ≠ .idle → t.bmn.test.phase = .idle ∧ t.bmn.test.module = none ∧
            (s.bmn.test.phase ≠ .closing →
              (t.batt i).latest = some ⟨.aborted, some .missing, none, none⟩))))) ∧
    ∀ cause, s.ulc.line = .answer → ∃ t, exec (.jabberInAnswer cause) s = .next t ∧ t.ulc.line = .guarded ∧
      t.ulc.transaction = none ∧ t.presence x = .quiet ∧ (∀ y, y ≠ x → t.ulc.units.get y = s.ulc.units.get y) ∧
      ((s.ulc.units.get x).misses < 2 → (t.ulc.units.get x).prior = some .present ∧
        (post .unitPresence 0 (u8 x.address ++ u8 1 ++ u8 3) s).nq.notices <+: t.nq.notices ∧
        ((∀ r ∈ s.ulc.q0 ++ s.ulc.q1, r.target ≠ x) → t.nq = (post .unitQuiet 0 (u8 x.address ++ u8 cause.ctorIdx)
          (post .unitPresence 0 (u8 x.address ++ u8 1 ++ u8 3) s)).nq)) ∧
      ∀ n, x = .slot n → t.ulc.isQueued (isPowerFor n) = false

/-- R11, R155, R166, R173: a grant goes to the first waiting source in the order of ArbiterStrategy, and the part sends the bits of its
call: Q0 before all under each; the due poll before Q1 under SCHEDULE_FIRST, after Q1 under COMMANDS_FIRST and never under
POLL_HOLD; a POWER ON that is sent leaves its slot no charged inrush. The cycle timer's expiry starts a cycle, or counts an overrun
of the one in progress, which stands at an entry or range that is due, and keeps one start pending. That a grant off IDLE and an expiry with no timer running change nothing is the model's
(log entry 6), and so is that an expiry with no cycle running starts one whether or not a start is pending (log entry 16). -/
def Obligations.GrantsAndCycles : Prop :=
  (∀ s : State, s.ulc.line ≠ .idle → exec .lineGrant s = .next s) ∧
  (∀ (s : State), arbiterReady s →
    (∀ r rest, s.ulc.q0 = r :: rest → ∃ t, exec .lineGrant s = .next t ∧ t.ulc.line = .call ∧
      t.ulc.transaction = some (.command r) ∧ t.ulc.sending = (Transaction.command r).callBits ∧ t.ulc.q0 = rest ∧
      t.ulc.q1 = s.ulc.q1 ∧ ∀ bit b, (Transaction.command r).callBits[bit]? = some b → t.ulc.level bit = b) ∧
    (s.ulc.q0 = [] →
      (∀ x, s.cfg.arbiterStrategy = .scheduleFirst ∨ s.cfg.arbiterStrategy = .commandsFirst ∧ s.ulc.q1 = [] ∧
          s.ulc.pass = none → s.ulc.cycleRunning = true → s.cfg.pollTable[s.ulc.cursor]? = some (.unit x) →
        exec .lineGrant s = .next { s with ulc := { s.ulc with
          line := .call, transaction := some (.poll x true), sending := (Transaction.poll x true).callBits } }) ∧
      (∀ r rest, s.ulc.q1 = r :: rest → s.cfg.arbiterStrategy = .commandsFirst ∨ s.cfg.arbiterStrategy = .pollHold ∨
          s.ulc.cycleRunning = false →
        ∃ t, exec .lineGrant s = .next t ∧ t.ulc.line = .call ∧ t.ulc.transaction = some (.command r) ∧
          t.ulc.sending = (Transaction.command r).callBits ∧ t.ulc.q1 = rest ∧
          ∀ n, r.kind = .powerOn → r.target = .slot n →
            t.slot n = { s.slot n with chargedInrush := none } ∧ t.ldm.rampLevel = s.ldm.rampLevel) ∧
      (∀ p, s.ulc.q1 = [] → s.ulc.pass = some p → p.sent = false → s.cfg.arbiterStrategy = .commandsFirst ∨
          s.cfg.arbiterStrategy = .pollHold ∨ s.ulc.cycleRunning = false →
        ∃ t, exec .lineGrant s = .next t ∧ t.ulc.line = .call ∧ t.ulc.transaction = some (.pass p.address p.payload) ∧
          t.ulc.sending = (Transaction.pass p.address p.payload).callBits ∧
          t.ulc.pass = some { p with sent := true, limit := none }) ∧
      (s.ulc.q1 = [] → s.ulc.pass = none → s.cfg.arbiterStrategy = .pollHold ∨ s.ulc.cycleRunning = false →
        exec .lineGrant s = .next s))) ∧
  ∀ s : State,
    (s.ulc.cycleTimer = none → exec .pollCycleExpiry s = .next s) ∧
    (s.ulc.cycleTimer ≠ none → s.ulc.cycleRunning = true → PollOk s →
      exec .pollCycleExpiry s = .next { s with ulc := { s.ulc with
        cycleTimer := some s.cfg.pollCycleMs
        linkOverrun := true
        overrunCount := min 65535 (s.ulc.overrunCount + 1)
        startPending := true } }) ∧
    (∀ x, s.ulc.cycleTimer ≠ none → s.ulc.cycleRunning = false → s.cfg.pollTable[0]? = some (.unit x) →
      s.isQuiet x = false → exec .pollCycleExpiry s = .next { s with ulc := { s.ulc with
        cycleTimer := some s.cfg.pollCycleMs, cycleRunning := true, cursor := 0 } })

/-- R167, R168: a round transaction of the event round. A bad answer over more than one address splits the range, the lower half to be
called next and the upper half pushed, or, where the lower half is the one address of a QUIET unit, the upper half called next; over one
address it posts EVENT_NOISE. A good answer of a unit that is not QUIET has its event
read next. No answer drops the range and takes the top of the stack. A good EVENT answer sets the unit's last event and posts it; a bad
one records nothing. -/
def Obligations.EventRounds : Prop :=
  (∀ (s : State) (r : AddrRange), PollOk s → s.ulc.transaction = some (.eventCall r true) →
    let lower : AddrRange := ⟨r.lo, r.lo + (r.hi - r.lo + 1) / 2 - 1⟩
    let upper : AddrRange := ⟨r.lo + (r.hi - r.lo + 1) / 2, r.hi⟩
    let freed := { s.ulc with line := .guarded, transaction := none, sending := [], responseTimer := none }
    (∀ c, s.ulc.line = .answer → (c = .answerGapTimeout ∨
        ∃ chars, c = .answerComplete chars ∧ (Transaction.eventCall r true).judge chars = .bad) →
      (r.lo < r.hi → s.ulc.quietRange lower = false → exec c s = .next { s with ulc := { freed with
        current := some lower, stack := upper :: s.ulc.stack } }) ∧
      (r.lo < r.hi → s.ulc.quietRange lower = true → s.ulc.quietRange upper = false → exec c s = .next { s with ulc := { freed with
        current := some upper } }) ∧
      (r.lo = r.hi → ∃ t, exec c s = .next t ∧ t.nq = (post .eventNoise 0 (u8 r.lo) s).nq ∧ changesOnly [.ulc, .nq] s t)) ∧
    (∀ chars a x, s.ulc.line = .answer → (Transaction.eventCall r true).judge chars = .good a →
      UnitId.ofAddress a.address = some x → s.isQuiet x = false →
      exec (.answerComplete chars) s = .next { s with ulc := { freed with toRead := some x } }) ∧
    ∀ top rest, s.ulc.line = .wait → s.ulc.stack = top :: rest → s.ulc.quietRange top = false → exec .responseTimeout s =
        .next { s with ulc := { freed with current := some top, stack := rest, toRead := none } }) ∧
  ∀ (s : State) (x : UnitId) (chars : List LineChar), s.ulc.transaction = some (.eventRead x true) → s.ulc.line = .answer →
    (∀ a code data, (Transaction.eventRead x true).judge chars = .good a → a.payload = code :: data →
      ∃ t, exec (.answerComplete chars) s = .next t ∧ t.ulc.line = .guarded ∧ t.ulc.transaction = none ∧ t.ulc.toRead = none ∧
        t.ulc.units.get x = { s.ulc.units.get x with lastEvent := some ⟨code, data, s.partTime⟩ } ∧
        (∀ y, y ≠ x → t.ulc.units.get y = s.ulc.units.get y) ∧
        t.nq = (post .unitEvent 0 (u8 x.address ++ u8 x.kindCode ++ [code] ++ data) s).nq ∧ changesOnly [.ulc, .nq] s t) ∧
    ((Transaction.eventRead x true).judge chars = .bad → ∃ t, exec (.answerComplete chars) s = .next t ∧
      t.ulc.line = .guarded ∧ t.ulc.transaction = none ∧ t.ulc.toRead = none ∧ t.ulc.units = s.ulc.units ∧ changesOnly [.ulc] s t)

/-- R174, R181, R185: a PASS_THROUGH to a unit that is not QUIET, or to the broadcast address, takes the pass-through slot and defers its
reply; an address outside the Unit Table is refused with OUT_OF_RANGE and a QUIET unit with REFUSED, reason LINK; a call not granted in
1,000 ms frees the slot and is answered TIMEOUT, cause NOT_SENT. The end of a granted call frees the slot and builds the deferred reply: OK with
the kind and payload of a good answer, TIMEOUT with cause NO_ANSWER for none, and with cause BAD_ANSWER for a bad one, jabber, which
marks the unit QUIET, among them (R160, R161, R200). -/
def Obligations.PassThroughHandled : Prop :=
  (∀ (s : State) (tag a : Byte) (bytes : List Byte), portReady s → bytes.length ≤ 32 →
    let u := heard s
    (a ≠ 0 → UnitId.ofAddress a.toNat = none →
      exec (.passThrough tag (a :: bytes)) s = .next (replied 0x25 tag (refuse .outOfRange) u)) ∧
    (∀ x, a ≠ 0 → UnitId.ofAddress a.toNat = some x → s.isQuiet x = true →
      exec (.passThrough tag (a :: bytes)) s = .next (replied 0x25 tag (refuseFor .link) u)) ∧
    (a = 0 ∨ (∃ x, UnitId.ofAddress a.toNat = some x ∧ s.isQuiet x = false) →
      ∃ t, exec (.passThrough tag (a :: bytes)) s = .next t ∧ t.ulc = { s.ulc with
          pass := some ⟨a.toNat, bytes, false, some 1000⟩ } ∧
        t.mgp.pending = .deferred ⟨0x25, tag, a :: bytes⟩ ∧ t.mgp.reply = none ∧ changesOnly [.mgp, .ulc] u t)) ∧
  ∀ (s : State) (p : PassSlot) (r : Request), s.ulc.pass = some p → s.mgp.pending = .deferred r →
    (p.sent = true → exec .passThroughNotSent s = .next s) ∧
    (p.sent = false → ∃ t, exec .passThroughNotSent s = .next t ∧ t.ulc = { s.ulc with pass := none } ∧
      t.mgp.reply = some (replyFrame r.kind r.tag ⟨.timeout, false, [2]⟩) ∧ t.mgp.pending = .free ∧
      changesOnly [.mgp, .ulc] s t) ∧
    ∀ a bytes, s.ulc.transaction = some (.pass a bytes) →
      let ends := fun (t : State) (resp : Response) => t.ulc.pass = none ∧ t.ulc.line = .guarded ∧ t.ulc.transaction = none ∧
        t.mgp.reply = some (replyFrame r.kind r.tag resp) ∧ t.mgp.pending = .free
      (∀ chars answer, s.ulc.line = .answer → (Transaction.pass a bytes).judge chars = .good answer →
        ∃ t, exec (.answerComplete chars) s = .next t ∧ ends t ⟨.ok, false, answer.kind :: answer.payload⟩ ∧
          changesOnly [.mgp, .ulc] s t) ∧
      (s.ulc.line = .wait → ∃ t, exec .responseTimeout s = .next t ∧ ends t ⟨.timeout, false, [0]⟩ ∧
        changesOnly [.mgp, .ulc] s t) ∧
      (∀ c, s.ulc.line = .answer → (c = .answerGapTimeout ∨
          ∃ chars, c = .answerComplete chars ∧ (Transaction.pass a bytes).judge chars = .bad) →
        ∃ t, exec c s = .next t ∧ ends t ⟨.timeout, false, [1]⟩ ∧ changesOnly [.mgp, .ulc] s t) ∧
      ∀ cause x, s.ulc.line = .answer → UnitId.ofAddress a = some x →
        ∃ t, exec (.jabberInAnswer cause) s = .next t ∧ ends t ⟨.timeout, false, [1]⟩ ∧ t.presence x = .quiet ∧
          ∀ y, y ≠ x → t.ulc.units.get y = s.ulc.units.get y

/-- R165, R162, R164, R177: WRITE_POLL_TABLE replaces the table at CONFIGURE, and is refused with BUSY during a commit (R194), after WRONG_LEVEL and
OUT_OF_RANGE (log entry 19: that order is the model's). UNIT_UNQUIET returns
a QUIET unit to its prior presence, and LINK_RESET cuts the transaction in progress, puts a command in flight back at the head of
its queue, abandons the round and clears every QUIET mark; with no transaction it leaves the line state as it is (the model's, log entry
17). -/
def Obligations.LinkRequests : Prop :=
  (∀ (s : State) (tag : Byte) (payload : List Byte), portReady s → payload.length ≤ 240 →
    let c := Instr.writePollTable tag payload
    (s.lvs.level = .supervise → exec c s = .next (replied 0x21 tag (refuse .wrongLevel) (heard s))) ∧
    (s.lvs.level = .configure →
      (64 < payload.length ∨ pollEntriesOf payload = none →
        exec c s = .next (replied 0x21 tag (refuse .outOfRange) (heard s))) ∧
      ∀ table, payload.length ≤ 64 → pollEntriesOf payload = some table →
        (s.lvs.commit ≠ none → exec c s = .next (replied 0x21 tag (refuse .busy) (heard s))) ∧
        (s.lvs.commit = none → ∃ t, exec c s = .next t ∧ t.cfg = { s.cfg with pollTable := table } ∧ t.lvs.dirty = true ∧
          t.ulc.current = none ∧ t.ulc.stack = [] ∧ t.ulc.toRead = none ∧
          t.mgp.reply = some (replyFrame 0x21 tag okEmpty) ∧ changesOnly [.mgp, .lvs, .ulc] (heard s) t))) ∧
  (∀ (s : State) (tag b : Byte), portReady s →
    (UnitId.ofAddress b.toNat = none →
      exec (.unitUnquiet tag [b]) s = .next (replied 0x23 tag (refuse .outOfRange) (heard s))) ∧
    ∀ x, UnitId.ofAddress b.toNat = some x →
      (s.presence x ≠ .quiet → exec (.unitUnquiet tag [b]) s = .next (replied 0x23 tag (refuse .state) (heard s))) ∧
      (∀ p, s.presence x = .quiet → (s.ulc.units.get x).prior = some p → ∃ t, exec (.unitUnquiet tag [b]) s = .next t ∧
        t.ulc.units.get x = ⟨p, none, 0, (s.ulc.units.get x).lastEvent⟩ ∧
        (∀ y, y ≠ x → t.ulc.units.get y = s.ulc.units.get y) ∧ (∃ data, t.nq = (post .unitPresence 0 data (heard s)).nq) ∧
        t.mgp.reply = some (replyFrame 0x23 tag okEmpty) ∧ changesOnly [.mgp, .ulc, .nq] (heard s) t)) ∧
  ∀ (s : State) (tag : Byte), portReady s → ∃ t, exec (.linkReset tag []) s = .next t ∧
    t.mgp.reply = some (replyFrame 0x24 tag okEmpty) ∧ t.ulc.transaction = none ∧ t.ulc.sending = [] ∧
    t.ulc.line = (if s.ulc.transaction = none then s.ulc.line else .guarded) ∧
    t.ulc.current = none ∧ t.ulc.toRead = none ∧ t.ulc.stack = [] ∧ t.lvs = s.lvs ∧
    (∀ x p, s.presence x = .quiet → (s.ulc.units.get x).prior = some p → t.presence x = p) ∧
    (∀ x, s.presence x ≠ .quiet → t.ulc.units.get x = s.ulc.units.get x) ∧
    (∀ cmd, s.ulc.transaction = some (.command cmd) → s.superseded cmd = false →
      t.ulc.q0 = (if cmd.kind = .powerOff then cmd :: s.ulc.q0 else s.ulc.q0) ∧
      t.ulc.q1 = (if cmd.kind = .powerOff then s.ulc.q1 else cmd :: s.ulc.q1))

/-! ## The Management Port, levels and settings -/

/-- R128, R178, R180, R181, R190: the events of the port that are no requests. Whatever characters come before it, a gap abandons the frame
in assembly; a character with its stop bit decided 0 does; a length byte above 240 does; and the last byte of a frame whose CRC does not
match, of which the assembly may hold a part already, ends it with one CRC discard counted. Characters that complete a good frame hand it to the
pending-request buffer: the request is carried out as by its own command, and the characters behind it are heard in the state it leaves.
A frame that finds the pending-request buffer
occupied sets the port overrun flag; the host-silence timer's expiry sets HOST_SILENT, posts the notice and tells the
sequencer. That an overrun with the buffer free and a silence expiry with no timer running change nothing is the model's (log entry
6), as is the form of the frame rows (log entry 18). -/
def Obligations.PortEvents : Prop :=
  ∀ s : State, s.mgp.crcDiscards ≤ 65535 →
    let cleared := { s with mgp := { s.mgp with assembly := [] } }
    exec .requestGapAbandon s = .next cleared ∧
    (∀ chars, (∀ r, AssemblyEnd.frame r ∉ (assemble s.mgp.assembly chars).2) →
      exec (.requestGapAbandon chars) s = .next { s with mgp := { s.mgp with
        assembly := []
        crcDiscards := min 65535 (s.mgp.crcDiscards + (assemble s.mgp.assembly chars).2.count .crcDiscard) } }) ∧
    (∀ c r chars rest bytes, requestOf c = some r → r.payload.length ≤ 240 → bytes ≠ [] →
      s.mgp.assembly ++ bytes = requestFrame r → portReads chars bytes → ∃ t, exec c s = .next t ∧
        exec (.requestGapAbandon (chars ++ rest)) s = exec (.requestGapAbandon rest) t ∧
        exec (.requestFramingError (chars ++ rest)) s = exec (.requestFramingError rest) t ∧
        exec (.requestLengthAbandon (chars ++ rest)) s = exec (.requestLengthAbandon rest) t ∧
        exec (.requestCrcDiscard (chars ++ rest)) s = exec (.requestCrcDiscard rest) t) ∧
    (∀ c, bitValue c.start = false → bitValue c.stop = false → exec (.requestFramingError [c]) s = .next cleared) ∧
    (∀ len chars bytes, 240 < len.toNat → bytes ≠ [] → s.mgp.assembly ++ bytes = [0xA5, len] → portReads chars bytes →
      exec (.requestLengthAbandon chars) s = .next cleared) ∧
    (∀ len kind tag payload c1 c0 chars bytes, payload.length = len.toNat → len.toNat ≤ 240 →
      c1 ++ c0 ≠ crc16 (len :: kind :: tag :: payload) → bytes ≠ [] →
      s.mgp.assembly ++ bytes = 0xA5 :: len :: kind :: tag :: payload ++ [c1, c0] → portReads chars bytes →
      exec (.requestCrcDiscard chars) s = .next { s with mgp := { s.mgp with
        crcDiscards := min 65535 (s.mgp.crcDiscards + 1), assembly := [] } }) ∧
    (s.mgp.pending ≠ .free →
      exec .requestOverrun s = .next { s with mgp := { s.mgp with portOverrun := true, assembly := [] } }) ∧
    (s.mgp.pending = .free → exec .requestOverrun s = .next s) ∧
    (s.mgp.silenceTimer = none → exec .hostSilent s = .next s) ∧
    (s.mgp.silenceTimer ≠ none → ∃ t, exec .hostSilent s = .next t ∧ t.mgp.hostSilent = true ∧
      t.mgp.silenceTimer = none ∧ t.seq = { s.seq with hostSilent := true } ∧
      t.nq = (post .hostSilent 0 (u16 s.cfg.hostSilenceS) s).nq ∧ changesOnly [.mgp, .nq, .seq] s t)

/-- R155, R157, R158, R160, R178 to R180: frames are read as they are sent. The characters of a request frame, whose bits are decided as the frame's own,
are assembled from HUNTING into exactly that request; those of a frame whose CRC does not match into none, with one CRC discard; a
length byte above 240 and a character with its stop bit decided 0 end a frame in assembly; a start bit decided 1 is dropped; and a byte
other than 0xA5 is discarded in HUNTING. The characters of an answer on the Unit Link, with mark bits 0 and stop bits 1, are read as exactly
its bytes, and its frame as its address, kind and payload. A reply goes onto the port's line as the ten bits of each of its bytes, first byte first, and
the line rests at 1 past them and with no reply (the rest level of the port's line is the model's, log entry 18); the four rates are those of R178's table. -/
def Obligations.FramesAreReadAsSent : Prop :=
  (∀ (r : Request) (chars : List PortChar), r.payload.length ≤ 240 → portReads chars (requestFrame r) →
    assemble [] chars = ([], [.frame r])) ∧
  (∀ (len kind tag c1 c0 : Byte) (payload : List Byte) (chars : List PortChar), payload.length = len.toNat →
    len.toNat ≤ 240 → c1 ++ c0 ≠ crc16 (len :: kind :: tag :: payload) →
    portReads chars (0xA5 :: len :: kind :: tag :: payload ++ [c1, c0]) → assemble [] chars = ([], [.crcDiscard])) ∧
  (∀ (len : Byte) (chars : List PortChar), 240 < len.toNat → portReads chars [0xA5, len] →
    assemble [] chars = ([], [.lengthAbandon])) ∧
  (∀ (held : List Byte) (c : PortChar) (rest : List PortChar),
    (bitValue c.start = true → assemble held (c :: rest) = assemble held rest) ∧
    (bitValue c.start = false → bitValue c.stop = false →
      assemble held (c :: rest) = ((assemble [] rest).1, .framingError :: (assemble [] rest).2))) ∧
  (∀ (m : Mgp) (frame : List Byte), (∀ bit, m.endReply.level bit = true ∧
      (10 * frame.length ≤ bit → (m.startReply frame).level bit = true)) ∧
    ∀ k (h : k < frame.length), (List.range 10).map (fun i => (m.startReply frame).level (10 * k + i)) =
      [false] ++ (List.range 8).map (fun i => frame[k].getLsbD i) ++ [true]) ∧
  BitRate.actual .b115200 = 115385 ∧ BitRate.actual .b230400 = 230769 ∧ BitRate.actual .b460800 = 461538 ∧
  BitRate.actual .b921600 = 923077 ∧
  (∀ (b : Byte) (chars rest : List PortChar), b ≠ 0xA5 → portReads chars [b] → assemble [] (chars ++ rest) = assemble [] rest) ∧
  ∀ (address kind : Byte) (payload : List Byte) (chars : List LineChar), payload.length ≤ 32 →
    let body := [address, kind, BitVec.ofNat 8 payload.length] ++ payload
    lineReads chars (body ++ [crc8 body]) →
    receivedBytes chars = some (body ++ [crc8 body]) ∧
      answerFrame (body ++ [crc8 body]) = some ⟨address.toNat, kind, payload⟩

/-- R181, R182, R190: what becomes of a request frame. It waits while a reply is being sent, is lost with the port overrun flag while another
request stands in the buffer, and a waiting one is taken when the reply has been sent, as one that arrives then. An unknown kind is
answered UNKNOWN_KIND and neither restarts the host-silence timer nor clears HOST_SILENT; a payload length that a known kind does not
accept is answered BAD_LENGTH. That a reply's end with no reply being sent changes nothing is the model's (log entry 6); so is that a request is
one command, its whole frame, and that the row UNKNOWN_KIND with a known kind is the request of that kind (log entry 18). -/
def Obligations.RequestsTakenInTurn : Prop :=
  ∀ (c : Instr) (r : Request) (s : State), requestOf c = some r → r.payload.length ≤ 240 →
    (s.mgp.pending = .free → s.mgp.reply ≠ none → exec c s = .next { s with mgp := { s.mgp with
      assembly := [], pending := .waiting r } }) ∧
    (s.mgp.pending ≠ .free → exec c s = .next { s with mgp := { s.mgp with assembly := [], portOverrun := true } }) ∧
    (s.mgp.pending = .waiting r → s.mgp.reply ≠ none → s.mgp.restartDue = false → s.mgp.bitRate = s.cfg.mgmtBitRate →
      s.mgp.assembly = [] →
      exec .replySent s = exec c { s with mgp := { s.mgp with reply := none, sending := [], pending := .free } }) ∧
    (s.mgp.pending = .free → s.mgp.reply ≠ none → s.mgp.restartDue = false →
      exec .replySent s = .next { s with mgp := { s.mgp with
        reply := none
        sending := []
        bitRate := s.cfg.mgmtBitRate
        assembly := if s.mgp.bitRate = s.cfg.mgmtBitRate then s.mgp.assembly else [] } }) ∧
    (s.mgp.reply = none → exec .replySent s = .next s) ∧
    (portReady s → (r.kind = 0 ∨ 0x26 < r.kind.toNat) → exec c s = .next { s with mgp := { s.mgp with
      assembly := [], reply := some (replyFrame r.kind r.tag (refuse .unknownKind)),
      sending := (replyFrame r.kind r.tag (refuse .unknownKind)).flatMap portBits } }) ∧
    (portReady s → r.kind ≠ 0 → r.kind.toNat ≤ 0x26 → acceptsLength r.kind r.payload.length = false →
      exec c s = .next (replied r.kind r.tag (refuse .badLength) (heard s)))

/-- R182: a request that is not answered OK changes nothing but the host-silence timer and flag: every request of a known kind that the port
takes is refused with its state as it was heard, or answered OK, or is a PASS_THROUGH whose reply is deferred. -/
def Obligations.RefusedRequestsChangeNothing : Prop :=
  ∀ (c : Instr) (r : Request) (s : State), requestOf c = some r → r.payload.length ≤ 240 → portReady s →
    r.kind ≠ 0 → r.kind.toNat ≤ 0x26 →
    ∃ t, exec c s = .next t ∧
      ((∃ resp, resp.status ≠ .ok ∧ t = replied r.kind r.tag resp (heard s)) ∨
        (∃ resp u, resp.status = .ok ∧ t = replied r.kind r.tag resp u) ∨
        (r.kind = 0x25 ∧ t.mgp.pending = .deferred r ∧ t.mgp.reply = none))

/-- R3, R21, R32, R80, R110, R118, R140, R162, R165, R186, R187, R194, R205: the read requests answer from the state as it was heard and
change nothing else, but for the overrun flags that GET_STATUS clears once its reply carries them; their replies have the lengths of
R205's table. -/
def Obligations.ReadRequests : Prop :=
  ∀ (s : State) (tag : Byte), portReady s →
    let u := heard s
    let answers := fun (c : Instr) (kind : Byte) (payload : List Byte) =>
      exec c s = .next (replied kind tag (okWith payload) u)
    (answers (.identify tag []) 0x01 u.identity ∧ u.identity.length = 20) ∧
    (exec (.getStatus tag []) s = .next (replied 0x02 tag (okWith u.status) { u with
      ulc := { u.ulc with linkOverrun := false }, mgp := { u.mgp with portOverrun := false } }) ∧ u.status.length = 47) ∧
    (answers (.readEstimate tag []) 0x03 u.estimateReply ∧ u.estimateReply.length = 165) ∧
    (∀ number index k, SettingKey.find number.toNat index.toNat = some k →
      answers (.readSetting tag [number, index]) 0x05 (u.settingReply k) ∧ (u.settingReply k).length = 11) ∧
    (∀ (n : Fin 48) (b : Byte), b.toNat = n → answers (.readSlot tag [b]) 0x0A (u.slotReply n) ∧ (u.slotReply n).length = 18) ∧
    (answers (.readZones tag []) 0x0E u.zonesReply ∧ u.zonesReply.length = 31 + s.ldm.restoreList.length) ∧
    (∀ (buffer : Byte) (first : Byte) view, u.planView buffer = some view →
      view.1 = 0 ∨ first.toNat < view.2.2.length →
      answers (.readPlan tag [buffer, first]) 0x16
        (planReply view (buffer == 1 && u.seq.startPending) first.toNat u.seq)) ∧
    (∀ (k : Fin 6) (b : Byte), b.toNat = k →
      answers (.readRectifier tag [b]) 0x17 (u.rectifierReply k) ∧ (u.rectifierReply k).length = 21) ∧
    (∀ (i : Fin 4) (b : Byte), b.toNat = i →
      answers (.readBattery tag [b]) 0x1B (u.batteryReply i) ∧ (u.batteryReply i).length = 56) ∧
    (∀ (c : Fin 8) (b : Byte), b.toNat = c → answers (.readLeak tag [b]) 0x1D (u.leakReply c) ∧ (u.leakReply c).length = 60) ∧
    (answers (.readPollTable tag []) 0x20 u.pollReply ∧ u.pollReply.length = 3 + s.cfg.pollTable.length) ∧
    ∀ x b, UnitId.ofAddress b.toNat = some x → answers (.readUnit tag [b]) 0x22 (u.unitReply x) ∧
      ((∀ e, (s.ulc.units.get x).lastEvent = some e → e.data.length = 4) → (u.unitReply x).length = 15)

/-- R189: FETCH_NOTICES returns from the oldest on as many notices as it asks for and the reply holds, removes them, clears NOTICES_LOST, and
leaves ATTN# asserted while a notice is left; a count outside 1 to 16 is refused with OUT_OF_RANGE. -/
def Obligations.NoticesFetched : Prop :=
  ∀ (s : State) (tag b : Byte), portReady s →
    let u := heard s
    (b = 0 ∨ 16 < b.toNat → exec (.fetchNotices tag [b]) s = .next (replied 0x26 tag (refuse .outOfRange) u)) ∧
    (b ≠ 0 → b.toNat ≤ 16 → ∃ t k, exec (.fetchNotices tag [b]) s = .next t ∧ k ≤ b.toNat ∧ k ≤ u.nq.notices.length ∧
      t.nq = ⟨u.nq.notices.drop k, false, decide (u.nq.notices.drop k ≠ [])⟩ ∧
      t.mgp.reply = some (replyFrame 0x26 tag (okWith (u8 k ++ u8 (u.nq.notices.length - k) ++ flagByte u.nq.lost ++
        (u.nq.notices.take k).flatMap Notice.bytes))) ∧
      3 + ((u.nq.notices.take k).flatMap Notice.bytes).length ≤ 240 ∧
      (k < b.toNat → k < u.nq.notices.length →
        240 < 3 + ((u.nq.notices.take (k + 1)).flatMap Notice.bytes).length) ∧
      changesOnly [.mgp, .nq] u t)

/-- R165, R192 to R194, R198: SET_LEVEL and WRITE_SETTING. A level the part stands at is answered OK with nothing changed, and none is
entered while the start-up sequence runs; an entry into SUPERVISE leaves a Poll Table that is not empty. A setting that is not
structural at SUPERVISE, written outside a commit, is stored as listed or clamped, alone of all settings, with the settings-dirty
flag set. -/
def Obligations.LevelsAndSettings : Prop :=
  (∀ (s : State) (tag b : Byte), portReady s →
    (1 < b.toNat → exec (.setLevel tag [b]) s = .next (replied 0x04 tag (refuse .outOfRange) (heard s))) ∧
    (b.toNat ≤ 1 → s.lvs.startingUp = true → exec (.setLevel tag [b]) s = .next (replied 0x04 tag (refuse .state) (heard s))) ∧
    (b.toNat ≤ 1 → s.lvs.startingUp = false → s.lvs.level.ctorIdx = b.toNat →
      exec (.setLevel tag [b]) s = .next (replied 0x04 tag okEmpty (heard s))) ∧
    (b = 0 → s.lvs.startingUp = false → s.lvs.level = .supervise →
      ∃ t, exec (.setLevel tag [b]) s = .next t ∧ t.lvs = { s.lvs with level := .configure } ∧
        t.mgp.reply = some (replyFrame 0x04 tag okEmpty) ∧ changesOnly [.mgp, .lvs] (heard s) t) ∧
    (b = 1 → s.lvs.startingUp = false → s.lvs.level = .configure →
      ∃ t, exec (.setLevel tag [b]) s = .next t ∧ t.lvs.level = .supervise ∧ t.lvs.supervised = true ∧
        t.cfg = { s.cfg with pollTable := if s.cfg.pollTable = [] then defaultPollTable else s.cfg.pollTable } ∧
        t.mgp.reply = some (replyFrame 0x04 tag okEmpty) ∧ changesOnly [.mgp, .lvs, .seq, .ulc, .nq] (heard s) t)) ∧
  ∀ (s : State) (tag number index : Byte) (value : List Byte) (k : SettingKey) (v : Nat), portReady s →
    SettingKey.find number.toNat index.toNat = some k → value.length = k.width →
    v = (match value with | [b] => b.toNat | [hi, lo] => hi.toNat * 256 + lo.toNat | _ => 0) →
    let c := Instr.writeSetting tag (number :: index :: value)
    (k.range.structural = true → s.lvs.level = .supervise →
      exec c s = .next (replied 0x06 tag (refuse .wrongLevel) (heard s))) ∧
    (k.range.structural = false ∨ s.lvs.level = .configure →
      (s.lvs.commit ≠ none → exec c s = .next (replied 0x06 tag (refuse .busy) (heard s))) ∧
      (s.lvs.commit = none → k.range.list = true → k.inList v = false →
        exec c s = .next (replied 0x06 tag (refuse .outOfRange) (heard s))) ∧
      (s.lvs.commit = none → k.range.list = false ∨ k.inList v = true →
        ∃ t, exec c s = .next t ∧ t.cfg.get k = max k.range.lo (min k.range.hi v) ∧
          (∀ j, j ≠ k → t.cfg.get j = s.cfg.get j) ∧ t.cfg.slots = s.cfg.slots ∧ t.cfg.leaks = s.cfg.leaks ∧
          t.cfg.pollTable = s.cfg.pollTable ∧ t.cfg.storedPlan = s.cfg.storedPlan ∧ t.lvs.dirty = true ∧
          t.mgp.reply = some (replyFrame 0x06 tag
            ⟨.ok, decide (max k.range.lo (min k.range.hi v) ≠ v), u16 (max k.range.lo (min k.range.hi v))⟩)))

/-- R115, R195, R196: COMMIT_SETTINGS takes a copy and marks the image invalid; the completion, whatever the port is doing, stores the copy
when the read-back matches it, and leaves the image invalid otherwise; REVERT_SETTINGS loads every working setting from a valid image.
Both requests are refused with BUSY during a commit, and REVERT_SETTINGS with STATE for want of an image. That a completion with no commit in flight
changes nothing is the model's (log entry 6). -/
def Obligations.CommitAndRevert : Prop :=
  (∀ (s : State) (matches? : Bool),
    (s.lvs.commit = none → exec (.commitCompletion matches?) s = .next s) ∧
    (∀ copy, s.lvs.commit = some copy → ∃ t, exec (.commitCompletion matches?) s = .next t ∧ t.lvs.commit = none ∧
      t.lvs.image = (if matches? then some copy.copy else s.lvs.image) ∧
      t.lvs.dirty = (if matches? then s.lvs.dirty && copy.defaultApplied else s.lvs.dirty) ∧ t.cfg = s.cfg ∧
      t.nq = (post .commitDone 0 (if matches? then [0] else [1]) s).nq ∧ changesOnly [.lvs, .nq] s t)) ∧
  ∀ (s : State) (tag : Byte), portReady s →
    (s.lvs.commit ≠ none → exec (.commitSettings tag []) s = .next (replied 0x07 tag (refuse .busy) (heard s)) ∧
      exec (.revertSettings tag []) s = .next (replied 0x08 tag (refuse .busy) (heard s))) ∧
    (s.lvs.commit = none → exec (.commitSettings tag []) s = .next (replied 0x07 tag okEmpty { heard s with
      lvs := { s.lvs with
        image := none
        commit := some ⟨{ s.cfg with storedPlan := match s.cfg.storedPlan with | .ready p => .ready p | _ => .empty },
          false⟩ } })) ∧
    (s.lvs.commit = none → s.lvs.image = none →
      exec (.revertSettings tag []) s = .next (replied 0x08 tag (refuse .state) (heard s))) ∧
    (∀ image, s.lvs.commit = none → s.lvs.image = some image → ∃ t, exec (.revertSettings tag []) s = .next t ∧
      t.cfg = image ∧ t.lvs.dirty = false ∧ t.lvs.image = some image ∧ t.lvs.level = s.lvs.level ∧
      t.mgp.reply = some (replyFrame 0x08 tag okEmpty))

/-- R30, R137, R182, R191, R199: RESTART is refused with STATE during start-up or out of GRID, then with BUSY during a commit, and is otherwise
answered OK and takes effect when its reply has been sent: the port's buffers and the Notice Queue start anew, so that nothing the queue
held has a part in what follows and only what the restart posts stands in it; Q1 is emptied, so that it holds only what the restart
itself places, a retry's ENABLE owed to a module or the release of a test's load; the sequencer drops its plans and its restore run, and the
level becomes StartLevel. Each ENERGIZING slot whose POWER ON was queued goes to OFF, or to VACANT with allocation 0, and the reload of a
valid image has it follow its allocation, its zone and its zone's isolation. With no valid image no other slot changes, and with no test
context Q1 is empty and STARTED is the only notice; a VACANT slot stays VACANT with an image too (that R30 stands here over R196 is the model's
reading, log entry 20). -/
def Obligations.WarmRestart : Prop :=
  (∀ (s : State) (tag : Byte), portReady s →
    (s.lvs.startingUp = true ∨ s.brc.state ≠ .grid →
      exec (.restart tag []) s = .next (replied 0x09 tag (refuse .state) (heard s))) ∧
    (s.lvs.startingUp = false → s.brc.state = .grid → s.lvs.commit ≠ none →
      exec (.restart tag []) s = .next (replied 0x09 tag (refuse .busy) (heard s))) ∧
    (s.lvs.startingUp = false → s.brc.state = .grid → s.lvs.commit = none →
      exec (.restart tag []) s = .next (replied 0x09 tag okEmpty { heard s with
        mgp := { (heard s).mgp with restartDue := true } }))) ∧
  ∀ s : State, s.mgp.reply ≠ none → s.mgp.restartDue = true → ∃ t, exec .replySent s = .next t ∧
    t.lvs.level = t.cfg.startLevel ∧ t.mgp.reply = none ∧ t.mgp.sending = [] ∧ t.mgp.pending = .free ∧
    t.mgp.assembly = [] ∧
    t.mgp.crcDiscards = 0 ∧ t.mgp.portOverrun = false ∧ t.mgp.hostSilent = false ∧ t.mgp.restartDue = false ∧
    t.mgp.bitRate = t.cfg.mgmtBitRate ∧ t.seq.state = .idle ∧ t.seq.active = none ∧ t.seq.staged = .empty ∧
    t.seq.restore = none ∧ t.seq.startPending = false ∧ t.partTime = s.partTime ∧ t.sfe = s.sfe ∧
    (∀ image, s.lvs.image = some image → t.lvs.image = some image ∧ t.cfg = { image with
      pollTable := if image.startLevel = .supervise ∧ image.pollTable = [] then defaultPollTable else image.pollTable }) ∧
    (∀ q, exec .replySent { s with nq := q } = .next t) ∧
    (∀ rec ∈ t.ulc.q1, (∃ k, rec = ⟨.rectifier k, .enable, none, .rsv, 0, true⟩) ∨
      ∃ i, rec = ⟨.battery i, .testLoadOff, none, .bmn, 0, false⟩) ∧
    (s.lvs.image = none → s.bmn.test.module = none → t.ulc.q1 = [] ∧
      ∃ counts, t.nq = ⟨[⟨s.partTime, .started, 0, [1, 0] ++ u8 t.cfg.startLevel.code ++ counts⟩], false, true⟩) ∧
    (ZonesOk s → ∀ n, s.ulc.q1.any (isPowerOnFor n) = true → (s.slot n).state = .energizing →
      (t.slot n).state = if (s.slotCfg n).allocation = 0 ∨ (t.slotCfg n).allocation = 0 then .vacant
        else if (t.zone (t.zoneOf n)).isolated then .isolated else .off) ∧
    (s.lvs.image = none → t.ldm.zones = s.ldm.zones ∧ t.ldm.restoreList = s.ldm.restoreList ∧
      ∀ n, (s.ulc.q1.any (isPowerOnFor n) = false → t.slot n = s.slot n) ∧
        (s.ulc.q1.any (isPowerOnFor n) = true → (s.slot n).state = .energizing →
          (t.slot n).state = if (s.slotCfg n).allocation = 0 then .vacant else .off)) ∧
    ∀ n, (s.slot n).state = .vacant → (t.slot n).state = .vacant ∧
      (s.ulc.q1.any (isPowerOnFor n) = false → t.slot n = s.slot n)
end

