-- ==== Sys2Proof/Laws/State.lean ====
section
/-! SUPPORT. Laws/State.lean: each field of the state after each change of one block, after a posting, and after the small changes of
one record; all true by unfolding, so that no later proof unfolds a record update. -/
namespace Sys2Proof.Machine

/-! ### `mapMgp` -/

@[simp] theorem State.mapMgp_partTime (f : Mgp → Mgp) (s : State) : (s.mapMgp f).partTime = s.partTime := rfl
@[simp] theorem State.mapMgp_mgp (f : Mgp → Mgp) (s : State) : (s.mapMgp f).mgp = f s.mgp := rfl
@[simp] theorem State.mapMgp_nq (f : Mgp → Mgp) (s : State) : (s.mapMgp f).nq = s.nq := rfl
@[simp] theorem State.mapMgp_lvs (f : Mgp → Mgp) (s : State) : (s.mapMgp f).lvs = s.lvs := rfl
@[simp] theorem State.mapMgp_sfe (f : Mgp → Mgp) (s : State) : (s.mapMgp f).sfe = s.sfe := rfl
@[simp] theorem State.mapMgp_acm (f : Mgp → Mgp) (s : State) : (s.mapMgp f).acm = s.acm := rfl
@[simp] theorem State.mapMgp_rsv (f : Mgp → Mgp) (s : State) : (s.mapMgp f).rsv = s.rsv := rfl
@[simp] theorem State.mapMgp_bmn (f : Mgp → Mgp) (s : State) : (s.mapMgp f).bmn = s.bmn := rfl
@[simp] theorem State.mapMgp_brc (f : Mgp → Mgp) (s : State) : (s.mapMgp f).brc = s.brc := rfl
@[simp] theorem State.mapMgp_ldm (f : Mgp → Mgp) (s : State) : (s.mapMgp f).ldm = s.ldm := rfl
@[simp] theorem State.mapMgp_seq (f : Mgp → Mgp) (s : State) : (s.mapMgp f).seq = s.seq := rfl
@[simp] theorem State.mapMgp_lkm (f : Mgp → Mgp) (s : State) : (s.mapMgp f).lkm = s.lkm := rfl
@[simp] theorem State.mapMgp_ulc (f : Mgp → Mgp) (s : State) : (s.mapMgp f).ulc = s.ulc := rfl
@[simp] theorem State.mapMgp_pending (f : Mgp → Mgp) (s : State) : (s.mapMgp f).pending = s.pending := rfl

/-! ### `mapNq` -/

@[simp] theorem State.mapNq_partTime (f : Nq → Nq) (s : State) : (s.mapNq f).partTime = s.partTime := rfl
@[simp] theorem State.mapNq_mgp (f : Nq → Nq) (s : State) : (s.mapNq f).mgp = s.mgp := rfl
@[simp] theorem State.mapNq_nq (f : Nq → Nq) (s : State) : (s.mapNq f).nq = f s.nq := rfl
@[simp] theorem State.mapNq_lvs (f : Nq → Nq) (s : State) : (s.mapNq f).lvs = s.lvs := rfl
@[simp] theorem State.mapNq_sfe (f : Nq → Nq) (s : State) : (s.mapNq f).sfe = s.sfe := rfl
@[simp] theorem State.mapNq_acm (f : Nq → Nq) (s : State) : (s.mapNq f).acm = s.acm := rfl
@[simp] theorem State.mapNq_rsv (f : Nq → Nq) (s : State) : (s.mapNq f).rsv = s.rsv := rfl
@[simp] theorem State.mapNq_bmn (f : Nq → Nq) (s : State) : (s.mapNq f).bmn = s.bmn := rfl
@[simp] theorem State.mapNq_brc (f : Nq → Nq) (s : State) : (s.mapNq f).brc = s.brc := rfl
@[simp] theorem State.mapNq_ldm (f : Nq → Nq) (s : State) : (s.mapNq f).ldm = s.ldm := rfl
@[simp] theorem State.mapNq_seq (f : Nq → Nq) (s : State) : (s.mapNq f).seq = s.seq := rfl
@[simp] theorem State.mapNq_lkm (f : Nq → Nq) (s : State) : (s.mapNq f).lkm = s.lkm := rfl
@[simp] theorem State.mapNq_ulc (f : Nq → Nq) (s : State) : (s.mapNq f).ulc = s.ulc := rfl
@[simp] theorem State.mapNq_pending (f : Nq → Nq) (s : State) : (s.mapNq f).pending = s.pending := rfl

/-! ### `mapLvs` -/

@[simp] theorem State.mapLvs_partTime (f : Lvs → Lvs) (s : State) : (s.mapLvs f).partTime = s.partTime := rfl
@[simp] theorem State.mapLvs_mgp (f : Lvs → Lvs) (s : State) : (s.mapLvs f).mgp = s.mgp := rfl
@[simp] theorem State.mapLvs_nq (f : Lvs → Lvs) (s : State) : (s.mapLvs f).nq = s.nq := rfl
@[simp] theorem State.mapLvs_lvs (f : Lvs → Lvs) (s : State) : (s.mapLvs f).lvs = f s.lvs := rfl
@[simp] theorem State.mapLvs_sfe (f : Lvs → Lvs) (s : State) : (s.mapLvs f).sfe = s.sfe := rfl
@[simp] theorem State.mapLvs_acm (f : Lvs → Lvs) (s : State) : (s.mapLvs f).acm = s.acm := rfl
@[simp] theorem State.mapLvs_rsv (f : Lvs → Lvs) (s : State) : (s.mapLvs f).rsv = s.rsv := rfl
@[simp] theorem State.mapLvs_bmn (f : Lvs → Lvs) (s : State) : (s.mapLvs f).bmn = s.bmn := rfl
@[simp] theorem State.mapLvs_brc (f : Lvs → Lvs) (s : State) : (s.mapLvs f).brc = s.brc := rfl
@[simp] theorem State.mapLvs_ldm (f : Lvs → Lvs) (s : State) : (s.mapLvs f).ldm = s.ldm := rfl
@[simp] theorem State.mapLvs_seq (f : Lvs → Lvs) (s : State) : (s.mapLvs f).seq = s.seq := rfl
@[simp] theorem State.mapLvs_lkm (f : Lvs → Lvs) (s : State) : (s.mapLvs f).lkm = s.lkm := rfl
@[simp] theorem State.mapLvs_ulc (f : Lvs → Lvs) (s : State) : (s.mapLvs f).ulc = s.ulc := rfl
@[simp] theorem State.mapLvs_pending (f : Lvs → Lvs) (s : State) : (s.mapLvs f).pending = s.pending := rfl

/-! ### `mapSfe` -/

@[simp] theorem State.mapSfe_partTime (f : Sfe → Sfe) (s : State) : (s.mapSfe f).partTime = s.partTime := rfl
@[simp] theorem State.mapSfe_mgp (f : Sfe → Sfe) (s : State) : (s.mapSfe f).mgp = s.mgp := rfl
@[simp] theorem State.mapSfe_nq (f : Sfe → Sfe) (s : State) : (s.mapSfe f).nq = s.nq := rfl
@[simp] theorem State.mapSfe_lvs (f : Sfe → Sfe) (s : State) : (s.mapSfe f).lvs = s.lvs := rfl
@[simp] theorem State.mapSfe_sfe (f : Sfe → Sfe) (s : State) : (s.mapSfe f).sfe = f s.sfe := rfl
@[simp] theorem State.mapSfe_acm (f : Sfe → Sfe) (s : State) : (s.mapSfe f).acm = s.acm := rfl
@[simp] theorem State.mapSfe_rsv (f : Sfe → Sfe) (s : State) : (s.mapSfe f).rsv = s.rsv := rfl
@[simp] theorem State.mapSfe_bmn (f : Sfe → Sfe) (s : State) : (s.mapSfe f).bmn = s.bmn := rfl
@[simp] theorem State.mapSfe_brc (f : Sfe → Sfe) (s : State) : (s.mapSfe f).brc = s.brc := rfl
@[simp] theorem State.mapSfe_ldm (f : Sfe → Sfe) (s : State) : (s.mapSfe f).ldm = s.ldm := rfl
@[simp] theorem State.mapSfe_seq (f : Sfe → Sfe) (s : State) : (s.mapSfe f).seq = s.seq := rfl
@[simp] theorem State.mapSfe_lkm (f : Sfe → Sfe) (s : State) : (s.mapSfe f).lkm = s.lkm := rfl
@[simp] theorem State.mapSfe_ulc (f : Sfe → Sfe) (s : State) : (s.mapSfe f).ulc = s.ulc := rfl
@[simp] theorem State.mapSfe_pending (f : Sfe → Sfe) (s : State) : (s.mapSfe f).pending = s.pending := rfl

/-! ### `mapAcm` -/

@[simp] theorem State.mapAcm_partTime (f : Acm → Acm) (s : State) : (s.mapAcm f).partTime = s.partTime := rfl
@[simp] theorem State.mapAcm_mgp (f : Acm → Acm) (s : State) : (s.mapAcm f).mgp = s.mgp := rfl
@[simp] theorem State.mapAcm_nq (f : Acm → Acm) (s : State) : (s.mapAcm f).nq = s.nq := rfl
@[simp] theorem State.mapAcm_lvs (f : Acm → Acm) (s : State) : (s.mapAcm f).lvs = s.lvs := rfl
@[simp] theorem State.mapAcm_sfe (f : Acm → Acm) (s : State) : (s.mapAcm f).sfe = s.sfe := rfl
@[simp] theorem State.mapAcm_acm (f : Acm → Acm) (s : State) : (s.mapAcm f).acm = f s.acm := rfl
@[simp] theorem State.mapAcm_rsv (f : Acm → Acm) (s : State) : (s.mapAcm f).rsv = s.rsv := rfl
@[simp] theorem State.mapAcm_bmn (f : Acm → Acm) (s : State) : (s.mapAcm f).bmn = s.bmn := rfl
@[simp] theorem State.mapAcm_brc (f : Acm → Acm) (s : State) : (s.mapAcm f).brc = s.brc := rfl
@[simp] theorem State.mapAcm_ldm (f : Acm → Acm) (s : State) : (s.mapAcm f).ldm = s.ldm := rfl
@[simp] theorem State.mapAcm_seq (f : Acm → Acm) (s : State) : (s.mapAcm f).seq = s.seq := rfl
@[simp] theorem State.mapAcm_lkm (f : Acm → Acm) (s : State) : (s.mapAcm f).lkm = s.lkm := rfl
@[simp] theorem State.mapAcm_ulc (f : Acm → Acm) (s : State) : (s.mapAcm f).ulc = s.ulc := rfl
@[simp] theorem State.mapAcm_pending (f : Acm → Acm) (s : State) : (s.mapAcm f).pending = s.pending := rfl

/-! ### `mapRsv` -/

@[simp] theorem State.mapRsv_partTime (f : Rsv → Rsv) (s : State) : (s.mapRsv f).partTime = s.partTime := rfl
@[simp] theorem State.mapRsv_mgp (f : Rsv → Rsv) (s : State) : (s.mapRsv f).mgp = s.mgp := rfl
@[simp] theorem State.mapRsv_nq (f : Rsv → Rsv) (s : State) : (s.mapRsv f).nq = s.nq := rfl
@[simp] theorem State.mapRsv_lvs (f : Rsv → Rsv) (s : State) : (s.mapRsv f).lvs = s.lvs := rfl
@[simp] theorem State.mapRsv_sfe (f : Rsv → Rsv) (s : State) : (s.mapRsv f).sfe = s.sfe := rfl
@[simp] theorem State.mapRsv_acm (f : Rsv → Rsv) (s : State) : (s.mapRsv f).acm = s.acm := rfl
@[simp] theorem State.mapRsv_rsv (f : Rsv → Rsv) (s : State) : (s.mapRsv f).rsv = f s.rsv := rfl
@[simp] theorem State.mapRsv_bmn (f : Rsv → Rsv) (s : State) : (s.mapRsv f).bmn = s.bmn := rfl
@[simp] theorem State.mapRsv_brc (f : Rsv → Rsv) (s : State) : (s.mapRsv f).brc = s.brc := rfl
@[simp] theorem State.mapRsv_ldm (f : Rsv → Rsv) (s : State) : (s.mapRsv f).ldm = s.ldm := rfl
@[simp] theorem State.mapRsv_seq (f : Rsv → Rsv) (s : State) : (s.mapRsv f).seq = s.seq := rfl
@[simp] theorem State.mapRsv_lkm (f : Rsv → Rsv) (s : State) : (s.mapRsv f).lkm = s.lkm := rfl
@[simp] theorem State.mapRsv_ulc (f : Rsv → Rsv) (s : State) : (s.mapRsv f).ulc = s.ulc := rfl
@[simp] theorem State.mapRsv_pending (f : Rsv → Rsv) (s : State) : (s.mapRsv f).pending = s.pending := rfl

/-! ### `mapBmn` -/

@[simp] theorem State.mapBmn_partTime (f : Bmn → Bmn) (s : State) : (s.mapBmn f).partTime = s.partTime := rfl
@[simp] theorem State.mapBmn_mgp (f : Bmn → Bmn) (s : State) : (s.mapBmn f).mgp = s.mgp := rfl
@[simp] theorem State.mapBmn_nq (f : Bmn → Bmn) (s : State) : (s.mapBmn f).nq = s.nq := rfl
@[simp] theorem State.mapBmn_lvs (f : Bmn → Bmn) (s : State) : (s.mapBmn f).lvs = s.lvs := rfl
@[simp] theorem State.mapBmn_sfe (f : Bmn → Bmn) (s : State) : (s.mapBmn f).sfe = s.sfe := rfl
@[simp] theorem State.mapBmn_acm (f : Bmn → Bmn) (s : State) : (s.mapBmn f).acm = s.acm := rfl
@[simp] theorem State.mapBmn_rsv (f : Bmn → Bmn) (s : State) : (s.mapBmn f).rsv = s.rsv := rfl
@[simp] theorem State.mapBmn_bmn (f : Bmn → Bmn) (s : State) : (s.mapBmn f).bmn = f s.bmn := rfl
@[simp] theorem State.mapBmn_brc (f : Bmn → Bmn) (s : State) : (s.mapBmn f).brc = s.brc := rfl
@[simp] theorem State.mapBmn_ldm (f : Bmn → Bmn) (s : State) : (s.mapBmn f).ldm = s.ldm := rfl
@[simp] theorem State.mapBmn_seq (f : Bmn → Bmn) (s : State) : (s.mapBmn f).seq = s.seq := rfl
@[simp] theorem State.mapBmn_lkm (f : Bmn → Bmn) (s : State) : (s.mapBmn f).lkm = s.lkm := rfl
@[simp] theorem State.mapBmn_ulc (f : Bmn → Bmn) (s : State) : (s.mapBmn f).ulc = s.ulc := rfl
@[simp] theorem State.mapBmn_pending (f : Bmn → Bmn) (s : State) : (s.mapBmn f).pending = s.pending := rfl

/-! ### `mapBrc` -/

@[simp] theorem State.mapBrc_partTime (f : Brc → Brc) (s : State) : (s.mapBrc f).partTime = s.partTime := rfl
@[simp] theorem State.mapBrc_mgp (f : Brc → Brc) (s : State) : (s.mapBrc f).mgp = s.mgp := rfl
@[simp] theorem State.mapBrc_nq (f : Brc → Brc) (s : State) : (s.mapBrc f).nq = s.nq := rfl
@[simp] theorem State.mapBrc_lvs (f : Brc → Brc) (s : State) : (s.mapBrc f).lvs = s.lvs := rfl
@[simp] theorem State.mapBrc_sfe (f : Brc → Brc) (s : State) : (s.mapBrc f).sfe = s.sfe := rfl
@[simp] theorem State.mapBrc_acm (f : Brc → Brc) (s : State) : (s.mapBrc f).acm = s.acm := rfl
@[simp] theorem State.mapBrc_rsv (f : Brc → Brc) (s : State) : (s.mapBrc f).rsv = s.rsv := rfl
@[simp] theorem State.mapBrc_bmn (f : Brc → Brc) (s : State) : (s.mapBrc f).bmn = s.bmn := rfl
@[simp] theorem State.mapBrc_brc (f : Brc → Brc) (s : State) : (s.mapBrc f).brc = f s.brc := rfl
@[simp] theorem State.mapBrc_ldm (f : Brc → Brc) (s : State) : (s.mapBrc f).ldm = s.ldm := rfl
@[simp] theorem State.mapBrc_seq (f : Brc → Brc) (s : State) : (s.mapBrc f).seq = s.seq := rfl
@[simp] theorem State.mapBrc_lkm (f : Brc → Brc) (s : State) : (s.mapBrc f).lkm = s.lkm := rfl
@[simp] theorem State.mapBrc_ulc (f : Brc → Brc) (s : State) : (s.mapBrc f).ulc = s.ulc := rfl
@[simp] theorem State.mapBrc_pending (f : Brc → Brc) (s : State) : (s.mapBrc f).pending = s.pending := rfl

/-! ### `mapLdm` -/

@[simp] theorem State.mapLdm_partTime (f : Ldm → Ldm) (s : State) : (s.mapLdm f).partTime = s.partTime := rfl
@[simp] theorem State.mapLdm_mgp (f : Ldm → Ldm) (s : State) : (s.mapLdm f).mgp = s.mgp := rfl
@[simp] theorem State.mapLdm_nq (f : Ldm → Ldm) (s : State) : (s.mapLdm f).nq = s.nq := rfl
@[simp] theorem State.mapLdm_lvs (f : Ldm → Ldm) (s : State) : (s.mapLdm f).lvs = s.lvs := rfl
@[simp] theorem State.mapLdm_sfe (f : Ldm → Ldm) (s : State) : (s.mapLdm f).sfe = s.sfe := rfl
@[simp] theorem State.mapLdm_acm (f : Ldm → Ldm) (s : State) : (s.mapLdm f).acm = s.acm := rfl
@[simp] theorem State.mapLdm_rsv (f : Ldm → Ldm) (s : State) : (s.mapLdm f).rsv = s.rsv := rfl
@[simp] theorem State.mapLdm_bmn (f : Ldm → Ldm) (s : State) : (s.mapLdm f).bmn = s.bmn := rfl
@[simp] theorem State.mapLdm_brc (f : Ldm → Ldm) (s : State) : (s.mapLdm f).brc = s.brc := rfl
@[simp] theorem State.mapLdm_ldm (f : Ldm → Ldm) (s : State) : (s.mapLdm f).ldm = f s.ldm := rfl
@[simp] theorem State.mapLdm_seq (f : Ldm → Ldm) (s : State) : (s.mapLdm f).seq = s.seq := rfl
@[simp] theorem State.mapLdm_lkm (f : Ldm → Ldm) (s : State) : (s.mapLdm f).lkm = s.lkm := rfl
@[simp] theorem State.mapLdm_ulc (f : Ldm → Ldm) (s : State) : (s.mapLdm f).ulc = s.ulc := rfl
@[simp] theorem State.mapLdm_pending (f : Ldm → Ldm) (s : State) : (s.mapLdm f).pending = s.pending := rfl

/-! ### `mapSeq` -/

@[simp] theorem State.mapSeq_partTime (f : Seq → Seq) (s : State) : (s.mapSeq f).partTime = s.partTime := rfl
@[simp] theorem State.mapSeq_mgp (f : Seq → Seq) (s : State) : (s.mapSeq f).mgp = s.mgp := rfl
@[simp] theorem State.mapSeq_nq (f : Seq → Seq) (s : State) : (s.mapSeq f).nq = s.nq := rfl
@[simp] theorem State.mapSeq_lvs (f : Seq → Seq) (s : State) : (s.mapSeq f).lvs = s.lvs := rfl
@[simp] theorem State.mapSeq_sfe (f : Seq → Seq) (s : State) : (s.mapSeq f).sfe = s.sfe := rfl
@[simp] theorem State.mapSeq_acm (f : Seq → Seq) (s : State) : (s.mapSeq f).acm = s.acm := rfl
@[simp] theorem State.mapSeq_rsv (f : Seq → Seq) (s : State) : (s.mapSeq f).rsv = s.rsv := rfl
@[simp] theorem State.mapSeq_bmn (f : Seq → Seq) (s : State) : (s.mapSeq f).bmn = s.bmn := rfl
@[simp] theorem State.mapSeq_brc (f : Seq → Seq) (s : State) : (s.mapSeq f).brc = s.brc := rfl
@[simp] theorem State.mapSeq_ldm (f : Seq → Seq) (s : State) : (s.mapSeq f).ldm = s.ldm := rfl
@[simp] theorem State.mapSeq_seq (f : Seq → Seq) (s : State) : (s.mapSeq f).seq = f s.seq := rfl
@[simp] theorem State.mapSeq_lkm (f : Seq → Seq) (s : State) : (s.mapSeq f).lkm = s.lkm := rfl
@[simp] theorem State.mapSeq_ulc (f : Seq → Seq) (s : State) : (s.mapSeq f).ulc = s.ulc := rfl
@[simp] theorem State.mapSeq_pending (f : Seq → Seq) (s : State) : (s.mapSeq f).pending = s.pending := rfl

/-! ### `mapLkm` -/

@[simp] theorem State.mapLkm_partTime (f : Lkm → Lkm) (s : State) : (s.mapLkm f).partTime = s.partTime := rfl
@[simp] theorem State.mapLkm_mgp (f : Lkm → Lkm) (s : State) : (s.mapLkm f).mgp = s.mgp := rfl
@[simp] theorem State.mapLkm_nq (f : Lkm → Lkm) (s : State) : (s.mapLkm f).nq = s.nq := rfl
@[simp] theorem State.mapLkm_lvs (f : Lkm → Lkm) (s : State) : (s.mapLkm f).lvs = s.lvs := rfl
@[simp] theorem State.mapLkm_sfe (f : Lkm → Lkm) (s : State) : (s.mapLkm f).sfe = s.sfe := rfl
@[simp] theorem State.mapLkm_acm (f : Lkm → Lkm) (s : State) : (s.mapLkm f).acm = s.acm := rfl
@[simp] theorem State.mapLkm_rsv (f : Lkm → Lkm) (s : State) : (s.mapLkm f).rsv = s.rsv := rfl
@[simp] theorem State.mapLkm_bmn (f : Lkm → Lkm) (s : State) : (s.mapLkm f).bmn = s.bmn := rfl
@[simp] theorem State.mapLkm_brc (f : Lkm → Lkm) (s : State) : (s.mapLkm f).brc = s.brc := rfl
@[simp] theorem State.mapLkm_ldm (f : Lkm → Lkm) (s : State) : (s.mapLkm f).ldm = s.ldm := rfl
@[simp] theorem State.mapLkm_seq (f : Lkm → Lkm) (s : State) : (s.mapLkm f).seq = s.seq := rfl
@[simp] theorem State.mapLkm_lkm (f : Lkm → Lkm) (s : State) : (s.mapLkm f).lkm = f s.lkm := rfl
@[simp] theorem State.mapLkm_ulc (f : Lkm → Lkm) (s : State) : (s.mapLkm f).ulc = s.ulc := rfl
@[simp] theorem State.mapLkm_pending (f : Lkm → Lkm) (s : State) : (s.mapLkm f).pending = s.pending := rfl

/-! ### `mapUlc` -/

@[simp] theorem State.mapUlc_partTime (f : Ulc → Ulc) (s : State) : (s.mapUlc f).partTime = s.partTime := rfl
@[simp] theorem State.mapUlc_mgp (f : Ulc → Ulc) (s : State) : (s.mapUlc f).mgp = s.mgp := rfl
@[simp] theorem State.mapUlc_nq (f : Ulc → Ulc) (s : State) : (s.mapUlc f).nq = s.nq := rfl
@[simp] theorem State.mapUlc_lvs (f : Ulc → Ulc) (s : State) : (s.mapUlc f).lvs = s.lvs := rfl
@[simp] theorem State.mapUlc_sfe (f : Ulc → Ulc) (s : State) : (s.mapUlc f).sfe = s.sfe := rfl
@[simp] theorem State.mapUlc_acm (f : Ulc → Ulc) (s : State) : (s.mapUlc f).acm = s.acm := rfl
@[simp] theorem State.mapUlc_rsv (f : Ulc → Ulc) (s : State) : (s.mapUlc f).rsv = s.rsv := rfl
@[simp] theorem State.mapUlc_bmn (f : Ulc → Ulc) (s : State) : (s.mapUlc f).bmn = s.bmn := rfl
@[simp] theorem State.mapUlc_brc (f : Ulc → Ulc) (s : State) : (s.mapUlc f).brc = s.brc := rfl
@[simp] theorem State.mapUlc_ldm (f : Ulc → Ulc) (s : State) : (s.mapUlc f).ldm = s.ldm := rfl
@[simp] theorem State.mapUlc_seq (f : Ulc → Ulc) (s : State) : (s.mapUlc f).seq = s.seq := rfl
@[simp] theorem State.mapUlc_lkm (f : Ulc → Ulc) (s : State) : (s.mapUlc f).lkm = s.lkm := rfl
@[simp] theorem State.mapUlc_ulc (f : Ulc → Ulc) (s : State) : (s.mapUlc f).ulc = f s.ulc := rfl
@[simp] theorem State.mapUlc_pending (f : Ulc → Ulc) (s : State) : (s.mapUlc f).pending = s.pending := rfl

/-! ### `post` -/

@[simp] theorem post_partTime (k : NoticeKind) (i : Nat) (d : List Byte) (s : State) : (post k i d s).partTime = s.partTime := rfl
@[simp] theorem post_mgp (k : NoticeKind) (i : Nat) (d : List Byte) (s : State) : (post k i d s).mgp = s.mgp := rfl
@[simp] theorem post_lvs (k : NoticeKind) (i : Nat) (d : List Byte) (s : State) : (post k i d s).lvs = s.lvs := rfl
@[simp] theorem post_sfe (k : NoticeKind) (i : Nat) (d : List Byte) (s : State) : (post k i d s).sfe = s.sfe := rfl
@[simp] theorem post_acm (k : NoticeKind) (i : Nat) (d : List Byte) (s : State) : (post k i d s).acm = s.acm := rfl
@[simp] theorem post_rsv (k : NoticeKind) (i : Nat) (d : List Byte) (s : State) : (post k i d s).rsv = s.rsv := rfl
@[simp] theorem post_bmn (k : NoticeKind) (i : Nat) (d : List Byte) (s : State) : (post k i d s).bmn = s.bmn := rfl
@[simp] theorem post_brc (k : NoticeKind) (i : Nat) (d : List Byte) (s : State) : (post k i d s).brc = s.brc := rfl
@[simp] theorem post_ldm (k : NoticeKind) (i : Nat) (d : List Byte) (s : State) : (post k i d s).ldm = s.ldm := rfl
@[simp] theorem post_seq (k : NoticeKind) (i : Nat) (d : List Byte) (s : State) : (post k i d s).seq = s.seq := rfl
@[simp] theorem post_lkm (k : NoticeKind) (i : Nat) (d : List Byte) (s : State) : (post k i d s).lkm = s.lkm := rfl
@[simp] theorem post_ulc (k : NoticeKind) (i : Nat) (d : List Byte) (s : State) : (post k i d s).ulc = s.ulc := rfl
@[simp] theorem post_pending (k : NoticeKind) (i : Nat) (d : List Byte) (s : State) : (post k i d s).pending = s.pending := rfl

/-- A posting: at the tail with ATTN# asserted, or lost when 32 notices are queued (R188). -/
@[simp] theorem post_nq (k : NoticeKind) (i : Nat) (d : List Byte) (s : State) :
    (post k i d s).nq = if s.nq.notices.length < 32 then
      ⟨s.nq.notices ++ [⟨s.partTime, k, i, d⟩], s.nq.lost, true⟩ else ⟨s.nq.notices, true, s.nq.attn⟩ := by
  simp only [post, State.mapNq]

/-! ### The reply buffer and the bits sent (R178, R183) -/

@[simp] theorem Mgp.startReply_reply (f : List Byte) (m : Mgp) : (m.startReply f).reply = some f := rfl
@[simp] theorem Mgp.startReply_sending (f : List Byte) (m : Mgp) : (m.startReply f).sending = f.flatMap portBits := rfl
@[simp] theorem Mgp.startReply_assembly (f : List Byte) (m : Mgp) : (m.startReply f).assembly = m.assembly := rfl
@[simp] theorem Mgp.startReply_pending (f : List Byte) (m : Mgp) : (m.startReply f).pending = m.pending := rfl
@[simp] theorem Mgp.startReply_crcDiscards (f : List Byte) (m : Mgp) : (m.startReply f).crcDiscards = m.crcDiscards := rfl
@[simp] theorem Mgp.startReply_portOverrun (f : List Byte) (m : Mgp) : (m.startReply f).portOverrun = m.portOverrun := rfl
@[simp] theorem Mgp.startReply_silenceTimer (f : List Byte) (m : Mgp) : (m.startReply f).silenceTimer = m.silenceTimer := rfl
@[simp] theorem Mgp.startReply_hostSilent (f : List Byte) (m : Mgp) : (m.startReply f).hostSilent = m.hostSilent := rfl
@[simp] theorem Mgp.startReply_wasSilent (f : List Byte) (m : Mgp) : (m.startReply f).wasSilent = m.wasSilent := rfl
@[simp] theorem Mgp.startReply_bitRate (f : List Byte) (m : Mgp) : (m.startReply f).bitRate = m.bitRate := rfl
@[simp] theorem Mgp.startReply_restartDue (f : List Byte) (m : Mgp) : (m.startReply f).restartDue = m.restartDue := rfl
@[simp] theorem Mgp.endReply_reply (m : Mgp) : m.endReply.reply = none := rfl
@[simp] theorem Mgp.endReply_sending (m : Mgp) : m.endReply.sending = [] := rfl
@[simp] theorem Mgp.endReply_assembly (m : Mgp) : m.endReply.assembly = m.assembly := rfl
@[simp] theorem Mgp.endReply_pending (m : Mgp) : m.endReply.pending = m.pending := rfl
@[simp] theorem Mgp.endReply_crcDiscards (m : Mgp) : m.endReply.crcDiscards = m.crcDiscards := rfl
@[simp] theorem Mgp.endReply_portOverrun (m : Mgp) : m.endReply.portOverrun = m.portOverrun := rfl
@[simp] theorem Mgp.endReply_silenceTimer (m : Mgp) : m.endReply.silenceTimer = m.silenceTimer := rfl
@[simp] theorem Mgp.endReply_hostSilent (m : Mgp) : m.endReply.hostSilent = m.hostSilent := rfl
@[simp] theorem Mgp.endReply_wasSilent (m : Mgp) : m.endReply.wasSilent = m.wasSilent := rfl
@[simp] theorem Mgp.endReply_bitRate (m : Mgp) : m.endReply.bitRate = m.bitRate := rfl
@[simp] theorem Mgp.endReply_restartDue (m : Mgp) : m.endReply.restartDue = m.restartDue := rfl

/-- The places of a field that are not used are as many bytes (R202, R205). -/
@[simp] theorem unusedBytes_length (i j : Nat) : (unusedBytes i j).length = j - i := by simp [unusedBytes]

/-! ### Conditions and lists -/

@[simp] theorem State.forEach_nil {α : Type} (f : α → State → State) (s : State) : s.forEach [] f = s := rfl
@[simp] theorem State.forEach_cons {α : Type} (a : α) (l : List α) (f : α → State → State) (s : State) :
    s.forEach (a :: l) f = (f a s).forEach l f := rfl

/-! ### The Unit Table -/

/-- A unit's record, once replaced, reads as it was put. -/
@[simp] theorem UnitTable.get_put_self (t : UnitTable) (x : UnitId) (r : UnitRecord) : (t.put x r).get x = r := by
  cases x <;> simp [UnitTable.get, UnitTable.put]

/-- Replacing a unit's record leaves every other unit's record. -/
theorem UnitTable.get_put_of_ne (t : UnitTable) {x y : UnitId} (r : UnitRecord) (h : y ≠ x) : (t.put x r).get y = t.get y := by
  cases x <;> cases y <;> simp_all [UnitTable.get, UnitTable.put] <;>
    exact Vector.getElem_set_ne _ _ (fun e => h (Fin.ext e).symm)


end Sys2Proof.Machine
end

