-- ==== Sys2Proof/Laws/Acts.lean ====
section
/-! SUPPORT. Laws/Acts.lean: which blocks each operation can change. `Acts bs s t` says that `t` has the part time and the queue
of `s`, the state of every block outside `bs`, and the notices of `s` with postings alone after them. One lemma per operation
says it once; a proof about a block an operation does not act on cites it and unfolds nothing. -/
namespace Sys2Proof.Laws
set_option Elab.async false
open Sys2Proof.Machine Sys2Proof.Safety

/-- What one posting makes of the Notice Queue (R188). -/
def pushed (q : Nq) (n : Notice) : Nq :=
  if q.notices.length < 32 then ⟨q.notices ++ [n], q.lost, true⟩ else ⟨q.notices, true, q.attn⟩

/-- `t` is `s` with at most the blocks `bs` changed; notices are posted and never taken out. -/
structure Acts (bs : List Block) (s t : State) : Prop where
  time : t.partTime = s.partTime
  queue : t.pending = s.pending
  frame : ∀ b, b ∉ bs → b ≠ .nq → sameBlock s t b
  posts : ∃ l : List Notice, t.nq = l.foldl pushed s.nq

/-- Nothing changed. -/
theorem Acts.refl (bs : List Block) (s : State) : Acts bs s s :=
  ⟨rfl, rfl, fun b _ _ => by cases b <;> rfl, [], rfl⟩

/-- One act after another. -/
theorem Acts.trans {bs : List Block} {s t u : State} (h : Acts bs s t) (k : Acts bs t u) : Acts bs s u := by
  refine ⟨k.time.trans h.time, k.queue.trans h.queue, fun b hb hn => ?_, ?_⟩
  · have a := h.frame b hb hn
    have c := k.frame b hb hn
    cases b <;> simp_all [sameBlock]
  · obtain ⟨l, hl⟩ := h.posts
    obtain ⟨m, hm⟩ := k.posts
    exact ⟨l ++ m, by rw [hm, hl, List.foldl_append]⟩

/-- An act on fewer blocks is an act on more. -/
theorem Acts.up {as bs : List Block} {s t : State} (h : Acts as s t)
    (sub : as.all (bs.contains ·) = true := by decide +kernel) : Acts bs s t := by
  refine ⟨h.time, h.queue, fun b hb hn => h.frame b (fun hm => hb ?_) hn, h.posts⟩
  have := List.all_eq_true.1 sub b hm
  simpa using this

/-- An act of the second kind after one of the first, both on blocks of `cs`. -/
theorem Acts.and {as bs cs : List Block} {s t u : State} (h : Acts as s t) (k : Acts bs t u)
    (ha : as.all (cs.contains ·) = true := by decide +kernel) (hb : bs.all (cs.contains ·) = true := by decide +kernel) : Acts cs s u :=
  (h.up ha).trans (k.up hb)

/-- The last of several acts, before the ones it came after. -/
theorem Acts.after {as bs : List Block} {s t u : State} (k : Acts as t u) (h : Acts bs s t)
    (sub : as.all (bs.contains ·) = true := by decide +kernel) : Acts bs s u := h.trans (k.up sub)

/-- As `Acts.after`, in the form that `apply` takes to a goal. -/
theorem Acts.next {as bs : List Block} {s t u : State} (k : Acts as t u)
    (sub : as.all (bs.contains ·) = true) (h : Acts bs s t) : Acts bs s u := h.trans (k.up sub)

/-- An act for each entry of a list. -/
theorem Acts.forEach {α : Type} {bs : List Block} {f : α → State → State} (h : ∀ a s, Acts bs s (f a s)) :
    ∀ (l : List α) (s : State), Acts bs s (s.forEach l f)
  | [], s => .refl bs s
  | a :: l, s => (h a s).trans (Acts.forEach h l (f a s))

/-- An act kept to the blocks outside `nq` when it posts nothing: it then leaves the Notice Queue too. -/
theorem Acts.changesOnly {bs : List Block} {s t : State} (h : Acts bs s t) (hn : Block.nq ∈ bs ∨ t.nq = s.nq) :
    changesOnly bs s t := by
  refine ⟨h.time, h.queue, fun b hb => ?_⟩
  by_cases e : b = .nq
  · subst e
    rcases hn with hn | hn
    · exact absurd hn hb
    · exact hn
  · exact h.frame b hb e

/-- Postings keep the Notice Queue within its rules (R188). -/
theorem Acts.noticesOk {bs : List Block} {s t : State} (h : Acts bs s t) (k : NoticesOk s) : NoticesOk t := by
  obtain ⟨l, hl⟩ := h.posts
  suffices H : ∀ (l : List Notice) (q : Nq), (q.notices.length ≤ 32 ∧ (q.attn = true ↔ q.notices ≠ [])) →
      ((l.foldl pushed q).notices.length ≤ 32 ∧ ((l.foldl pushed q).attn = true ↔ (l.foldl pushed q).notices ≠ [])) by
    unfold NoticesOk; rw [hl]; exact H l s.nq k
  intro l
  induction l with
  | nil => intro q h; exact h
  | cons n l ih =>
    intro q h
    refine ih _ ?_
    unfold pushed
    split
    · refine ⟨by simp only [List.length_append, List.length_singleton]; omega, by simp⟩
    · exact h

/-! ## Every block's own change, and postings -/

theorem mapMgp_acts (f : Mgp → Mgp) (s : State) : Acts [.mgp] s (s.mapMgp f) :=
  ⟨rfl, rfl, fun b h _ => by cases b <;> first | rfl | simp at h, [], rfl⟩

theorem mapLvs_acts (f : Lvs → Lvs) (s : State) : Acts [.lvs] s (s.mapLvs f) :=
  ⟨rfl, rfl, fun b h _ => by cases b <;> first | rfl | simp at h, [], rfl⟩

theorem mapSfe_acts (f : Sfe → Sfe) (s : State) : Acts [.sfe] s (s.mapSfe f) :=
  ⟨rfl, rfl, fun b h _ => by cases b <;> first | rfl | simp at h, [], rfl⟩

theorem mapAcm_acts (f : Acm → Acm) (s : State) : Acts [.acm] s (s.mapAcm f) :=
  ⟨rfl, rfl, fun b h _ => by cases b <;> first | rfl | simp at h, [], rfl⟩

theorem mapRsv_acts (f : Rsv → Rsv) (s : State) : Acts [.rsv] s (s.mapRsv f) :=
  ⟨rfl, rfl, fun b h _ => by cases b <;> first | rfl | simp at h, [], rfl⟩

theorem mapBmn_acts (f : Bmn → Bmn) (s : State) : Acts [.bmn] s (s.mapBmn f) :=
  ⟨rfl, rfl, fun b h _ => by cases b <;> first | rfl | simp at h, [], rfl⟩

theorem mapBrc_acts (f : Brc → Brc) (s : State) : Acts [.brc] s (s.mapBrc f) :=
  ⟨rfl, rfl, fun b h _ => by cases b <;> first | rfl | simp at h, [], rfl⟩

theorem mapLdm_acts (f : Ldm → Ldm) (s : State) : Acts [.ldm] s (s.mapLdm f) :=
  ⟨rfl, rfl, fun b h _ => by cases b <;> first | rfl | simp at h, [], rfl⟩

theorem mapSeq_acts (f : Seq → Seq) (s : State) : Acts [.seq] s (s.mapSeq f) :=
  ⟨rfl, rfl, fun b h _ => by cases b <;> first | rfl | simp at h, [], rfl⟩

theorem mapLkm_acts (f : Lkm → Lkm) (s : State) : Acts [.lkm] s (s.mapLkm f) :=
  ⟨rfl, rfl, fun b h _ => by cases b <;> first | rfl | simp at h, [], rfl⟩

theorem mapUlc_acts (f : Ulc → Ulc) (s : State) : Acts [.ulc] s (s.mapUlc f) :=
  ⟨rfl, rfl, fun b h _ => by cases b <;> first | rfl | simp at h, [], rfl⟩

/-- A posting changes the Notice Queue alone. -/
theorem post_acts (k : NoticeKind) (i : Nat) (d : List Byte) (s : State) : Acts [] s (post k i d s) :=
  ⟨rfl, rfl, fun b _ h => by cases b <;> first | rfl | exact absurd rfl h, [⟨s.partTime, k, i, d⟩], post_nq k i d s⟩

/-! ## Ops: slots, zones and the Command Queues -/

theorem enterSettling_acts (p : PlanStep) (s : State) : Acts [.seq] s (enterSettling p s) := by
  unfold enterSettling
  try dsimp only
  repeat' (first
    | with_reducible exact .refl _ _
    | with_reducible apply (mapSeq_acts ..).next rfl)

theorem testAwait_acts (s : State) : Acts [.seq] s (testAwait s) := by
  unfold testAwait
  try dsimp only
  repeat' (first
    | with_reducible exact .refl _ _
    | with_reducible apply (enterSettling_acts ..).next rfl
    | split)

theorem endRestoreWait_acts (n : Fin 48) (s : State) : Acts [.seq] s (endRestoreWait n s) := by
  unfold endRestoreWait
  try dsimp only
  repeat' (first
    | with_reducible exact .refl _ _
    | with_reducible apply (mapSeq_acts ..).next rfl)

theorem reportDeparture_acts (n : Fin 48) (s : State) : Acts [.seq] s (reportDeparture n s) := by
  unfold reportDeparture
  try dsimp only
  repeat' (first
    | with_reducible exact .refl _ _
    | with_reducible apply (testAwait_acts ..).next rfl
    | with_reducible apply (endRestoreWait_acts ..).next rfl)

theorem reportPowerOn_acts (n : Fin 48) (o : CallOutcome) (s : State) : Acts [.seq] s (reportPowerOn n o s) := by
  unfold reportPowerOn
  try dsimp only
  repeat' (first
    | with_reducible exact .refl _ _
    | with_reducible apply (testAwait_acts ..).next rfl
    | with_reducible apply (endRestoreWait_acts ..).next rfl
    | with_reducible apply (mapSeq_acts ..).next rfl
    | split)

theorem recomputeCommitted_acts (s : State) : Acts [.ldm] s (recomputeCommitted s) := mapLdm_acts _ s

theorem putSlot_acts (n : Fin 48) (r : Slot) (s : State) : Acts [.ldm, .seq] s (putSlot n r s) := by
  have h : Acts [.ldm, .seq] s (recomputeCommitted (s.mapLdm fun l => { l with slots := l.slots.set n r })) :=
    (mapLdm_acts _ s).and (recomputeCommitted_acts _)
  unfold putSlot
  dsimp only
  split
  · exact h.trans (reportDeparture_acts n _).up
  · exact h

theorem mapSlot_acts (n : Fin 48) (f : Slot → Slot) (s : State) : Acts [.ldm, .seq] s (mapSlot n f s) := by
  unfold mapSlot
  try dsimp only
  repeat' (first
    | with_reducible exact .refl _ _
    | with_reducible apply (putSlot_acts ..).next rfl)

theorem mapZone_acts (z : Fin 8) (f : Zone → Zone) (s : State) : Acts [.ldm] s (mapZone z f s) := by
  unfold mapZone
  try dsimp only
  repeat' (first
    | with_reducible exact .refl _ _
    | with_reducible apply (mapLdm_acts ..).next rfl)

theorem leaveRestoreList_acts (n : Fin 48) (s : State) : Acts [.ldm] s (leaveRestoreList n s) := by
  unfold leaveRestoreList
  try dsimp only
  repeat' (first
    | with_reducible exact .refl _ _
    | with_reducible apply (mapLdm_acts ..).next rfl)

theorem pushRestoreList_acts (n : Fin 48) (s : State) : Acts [.ldm] s (pushRestoreList n s) := by
  unfold pushRestoreList
  try dsimp only
  repeat' (first
    | with_reducible exact .refl _ _
    | with_reducible apply (mapLdm_acts ..).next rfl)

theorem giveBackInrush_acts (n : Fin 48) (s : State) : Acts [.ldm, .seq] s (giveBackInrush n s) := by
  unfold giveBackInrush
  try dsimp only
  repeat' (first
    | with_reducible exact .refl _ _
    | with_reducible apply (mapSlot_acts ..).next rfl
    | with_reducible apply (mapLdm_acts ..).next rfl
    | split)

theorem enqueue_acts (c : CommandRecord) (s : State) : Acts [.ulc] s (enqueue c s) := by
  unfold enqueue
  try dsimp only
  repeat' (first
    | with_reducible exact .refl _ _
    | with_reducible apply (mapUlc_acts ..).next rfl)

theorem recordWithdrawn_acts (c : CommandRecord) (s : State) : Acts [.ldm, .seq] s (recordWithdrawn c s) := by
  unfold recordWithdrawn
  try dsimp only
  repeat' (first
    | with_reducible exact .refl _ _
    | with_reducible apply (reportPowerOn_acts ..).next rfl
    | with_reducible apply (giveBackInrush_acts ..).next rfl
    | split)

theorem withdrawQueued_acts (pick : CommandRecord → Bool) (s : State) : Acts [.ldm, .seq, .ulc] s (withdrawQueued pick s) := by
  unfold withdrawQueued
  try dsimp only
  repeat' (first
    | with_reducible exact .refl _ _
    | with_reducible apply (mapUlc_acts ..).next rfl
    | with_reducible apply (Acts.forEach (bs := [.ldm, .seq]) recordWithdrawn_acts _ _).next rfl)

theorem placePower_acts (n : Fin 48) (kind : CommandKind) (s : State) : Acts [.ldm, .seq, .ulc] s (placePower n kind s) := by
  unfold placePower
  try dsimp only
  repeat' (first
    | with_reducible exact .refl _ _
    | with_reducible apply (enqueue_acts ..).next rfl
    | with_reducible apply (withdrawQueued_acts ..).next rfl)

theorem placeModuleCall_acts (k : Fin 6) (kind : CommandKind) (retry : Bool) (s : State) :
    Acts [.ldm, .seq, .ulc] s (placeModuleCall k kind retry s) := by
  unfold placeModuleCall
  try dsimp only
  repeat' (first
    | with_reducible exact .refl _ _
    | with_reducible apply (enqueue_acts ..).next rfl
    | with_reducible apply (withdrawQueued_acts ..).next rfl)

theorem placeTestLoad_acts (i : Fin 4) (kind : CommandKind) (a : Option Nat) (s : State) :
    Acts [.ulc] s (placeTestLoad i kind a s) := by
  unfold placeTestLoad
  try dsimp only
  repeat' (first
    | with_reducible exact .refl _ _
    | with_reducible apply (enqueue_acts ..).next rfl)

/-! ## The Load Manager -/

theorem setSlotState_acts (n : Fin 48) (st : SlotState) (s : State) : Acts [.ldm, .seq] s (setSlotState n st s) := by
  unfold setSlotState
  try dsimp only
  repeat' (first
    | with_reducible exact .refl _ _
    | with_reducible apply (mapSlot_acts ..).next rfl)

theorem testOverdraw_acts (n : Fin 48) (d : Nat) (s : State) : Acts [.ldm, .seq] s (testOverdraw n d s) := by
  unfold testOverdraw
  try dsimp only
  repeat' (first
    | with_reducible exact .refl _ _
    | with_reducible apply (post_acts ..).next rfl
    | with_reducible apply (mapSlot_acts ..).next rfl
    | split)

theorem slotFaultReported_acts (n : Fin 48) (s : State) : Acts [.ldm, .seq] s (slotFaultReported n s) := by
  unfold slotFaultReported
  try dsimp only
  repeat' (first
    | with_reducible exact .refl _ _
    | with_reducible apply (post_acts ..).next rfl
    | with_reducible apply (setSlotState_acts ..).next rfl)

theorem slotFoundOn_acts (n : Fin 48) (s : State) : Acts [.ldm, .seq] s (slotFoundOn n s) := by
  unfold slotFoundOn
  try dsimp only
  repeat' (first
    | with_reducible exact .refl _ _
    | with_reducible apply (post_acts ..).next rfl
    | with_reducible apply (setSlotState_acts ..).next rfl)

theorem seedSlot_acts (n : Fin 48) (p : UnitPower) (s : State) : Acts [.ldm, .seq, .ulc] s (seedSlot n p s) := by
  unfold seedSlot
  try dsimp only
  repeat' (first
    | with_reducible exact .refl _ _
    | with_reducible apply (setSlotState_acts ..).next rfl
    | with_reducible apply (placePower_acts ..).next rfl
    | with_reducible apply (slotFoundOn_acts ..).next rfl
    | with_reducible apply (slotFaultReported_acts ..).next rfl
    | split)

theorem slotAnswerState_acts (n : Fin 48) (p : UnitPower) (s : State) : Acts [.ldm, .seq, .ulc] s (slotAnswerState n p s) := by
  unfold slotAnswerState
  try dsimp only
  repeat' (first
    | with_reducible exact .refl _ _
    | with_reducible apply (seedSlot_acts ..).next rfl
    | with_reducible apply (slotFoundOn_acts ..).next rfl
    | with_reducible apply (slotFaultReported_acts ..).next rfl
    | with_reducible apply (setSlotState_acts ..).next rfl
    | with_reducible apply (post_acts ..).next rfl
    | with_reducible apply (mapSlot_acts ..).next rfl
    | split)

theorem slotAnswer_acts (n : Fin 48) (a : SlotAnswer) (s : State) : Acts [.ldm, .seq, .ulc] s (slotAnswer n a s) := by
  unfold slotAnswer
  try dsimp only
  repeat' (first
    | with_reducible exact .refl _ _
    | with_reducible apply (testOverdraw_acts ..).next rfl
    | with_reducible apply (slotAnswerState_acts ..).next rfl
    | with_reducible apply (mapSlot_acts ..).next rfl)

theorem slotMissing_acts (n : Fin 48) (s : State) : Acts [.ldm, .seq, .ulc] s (slotMissing n s) := by
  unfold slotMissing
  try dsimp only
  repeat' (first
    | with_reducible exact .refl _ _
    | with_reducible apply (leaveRestoreList_acts ..).next rfl
    | with_reducible apply (mapSlot_acts ..).next rfl
    | with_reducible apply (withdrawQueued_acts ..).next rfl)

theorem grantAdmission_acts (n : Fin 48) (s : State) : Acts [.ldm, .seq, .ulc] s (grantAdmission n s) := by
  unfold grantAdmission
  try dsimp only
  repeat' (first
    | with_reducible exact .refl _ _
    | with_reducible apply (mapSlot_acts ..).next rfl
    | with_reducible apply (placePower_acts ..).next rfl
    | with_reducible apply (leaveRestoreList_acts ..).next rfl
    | with_reducible apply (mapLdm_acts ..).next rfl)

theorem readCapacity_acts (s : State) : Acts [.brc] s (readCapacity s) := mapBrc_acts ..

theorem readForCoverage_acts (s : State) : Acts [.brc] s (readForCoverage s) := by
  unfold readForCoverage
  split
  · exact readCapacity_acts s
  · exact .refl _ _

/-- An admission that is granted is the grant. -/
theorem admitSlot_ok {o : AdmissionOrigin} {n : Fin 48} {s t : State} (h : admitSlot o n s = .ok t) :
    admissionCheck o n s = none ∧ t = grantAdmission n (readForCoverage s) := by
  unfold admitSlot at h
  split at h
  · cases h
  · cases h; exact ⟨by assumption, rfl⟩

/-- An admission that is refused names the first check that fails. -/
theorem admitSlot_error {o : AdmissionOrigin} {n : Fin 48} {s : State} {r : RefusalReason} (h : admitSlot o n s = .error r) :
    admissionCheck o n s = some r := by
  unfold admitSlot at h
  split at h
  · cases h; assumption
  · cases h

theorem admitSlot_acts {o : AdmissionOrigin} {n : Fin 48} {s t : State} (h : admitSlot o n s = .ok t) :
    Acts [.brc, .ldm, .seq, .ulc] s t := by
  rw [(admitSlot_ok h).2]
  exact (readForCoverage_acts s).and (grantAdmission_acts n _)

theorem shedSlot_acts (r : ShedReason) (n : Fin 48) (s : State) : Acts [.ldm, .seq, .ulc] s (shedSlot r n s) := by
  unfold shedSlot
  try dsimp only
  repeat' (first
    | with_reducible exact .refl _ _
    | with_reducible apply (pushRestoreList_acts ..).next rfl
    | with_reducible apply (withdrawQueued_acts ..).next rfl
    | with_reducible apply (placePower_acts ..).next rfl
    | with_reducible apply (mapSlot_acts ..).next rfl
    | split)

theorem shedRequest_acts (a : Nat) (r : ShedReason) (s : State) : Acts [.ldm, .seq, .ulc] s (shedRequest a r s).1 :=
  .forEach (shedSlot_acts r) _ s

theorem unenergize_acts (n : Fin 48) (s : State) : Acts [.ldm, .seq] s (unenergize n s) := by
  unfold unenergize
  try dsimp only
  repeat' (first
    | with_reducible exact .refl _ _
    | with_reducible apply (setSlotState_acts ..).next rfl
    | split)

theorem withdrawPowerOn_acts (n : Fin 48) (s : State) : Acts [.ldm, .seq, .ulc] s (withdrawPowerOn n s) := by
  unfold withdrawPowerOn
  try dsimp only
  repeat' (first
    | with_reducible exact .refl _ _
    | with_reducible apply (unenergize_acts ..).next rfl
    | with_reducible apply (withdrawQueued_acts ..).next rfl
    | split)

theorem loadManagerDeparture_acts (s : State) : Acts [.ldm, .seq, .ulc] s (loadManagerDeparture s) :=
  .forEach withdrawPowerOn_acts _ s

theorem isolateSlot_acts (n : Fin 48) (s : State) : Acts [.ldm, .seq, .ulc] s (isolateSlot n s) := by
  unfold isolateSlot
  try dsimp only
  repeat' (first
    | with_reducible exact .refl _ _
    | with_reducible apply (placePower_acts ..).next rfl
    | with_reducible apply (leaveRestoreList_acts ..).next rfl
    | with_reducible apply (mapSlot_acts ..).next rfl
    | split)

theorem isolateZone_acts (z : Fin 8) (s : State) : Acts [.ldm, .seq, .ulc] s (isolateZone z s) := by
  unfold isolateZone
  try dsimp only
  repeat' (first
    | with_reducible exact .refl _ _
    | with_reducible apply (post_acts ..).next rfl
    | with_reducible apply (mapZone_acts ..).next rfl
    | with_reducible apply (Acts.forEach (bs := [.ldm, .seq, .ulc]) isolateSlot_acts _ _).next rfl
    | split)

theorem releaseZone_acts (z : Fin 8) (s : State) : Acts [.ldm, .seq] s (releaseZone z s) := by
  unfold releaseZone
  try dsimp only
  repeat' (first
    | with_reducible exact .refl _ _
    | with_reducible apply (post_acts ..).next rfl
    | with_reducible apply (mapZone_acts ..).next rfl
    | with_reducible apply (Acts.forEach (bs := [.ldm, .seq]) (fun n s => setSlotState_acts n (s.offState n) s) _ _).next rfl)

theorem powerOnOutcome_acts (n : Fin 48) (o : CallOutcome) (s : State) : Acts [.ldm, .seq] s (powerOnOutcome n o s) := by
  unfold powerOnOutcome
  try dsimp only
  repeat' (first
    | with_reducible exact .refl _ _
    | with_reducible apply (reportPowerOn_acts ..).next rfl
    | with_reducible apply (post_acts ..).next rfl
    | with_reducible apply (setSlotState_acts ..).next rfl
    | split)

theorem powerOffOutcome_acts (n : Fin 48) (o : CallOutcome) (s : State) : Acts [.ldm, .seq] s (powerOffOutcome n o s) := by
  unfold powerOffOutcome
  try dsimp only
  repeat' (first
    | with_reducible exact .refl _ _
    | with_reducible apply (post_acts ..).next rfl
    | with_reducible apply (mapSlot_acts ..).next rfl
    | split)

theorem decayRamp_acts (s : State) : Acts [.ldm] s (decayRamp s) := by
  unfold decayRamp
  try dsimp only
  repeat' (first
    | with_reducible exact .refl _ _
    | with_reducible apply (mapLdm_acts ..).next rfl)

theorem clampRamp_acts (s : State) : Acts [.ldm] s (clampRamp s) := by
  unfold clampRamp
  try dsimp only
  repeat' (first
    | with_reducible exact .refl _ _
    | with_reducible apply (mapLdm_acts ..).next rfl)

theorem putSlotCfg_acts (n : Fin 48) (c : SlotSettings) (s : State) : Acts [.lvs] s (putSlotCfg n c s) := by
  unfold putSlotCfg
  try dsimp only
  repeat' (first
    | with_reducible exact .refl _ _
    | with_reducible apply (mapLvs_acts ..).next rfl)

theorem applyAllocation_acts (b : Bool) (n : Fin 48) (a : Nat) (s : State) :
    Acts [.ldm, .seq, .ulc, .lvs] s (applyAllocation b n a s) := by
  have h : Acts [.ldm, .seq, .ulc, .lvs] s
      (recomputeCommitted (putSlotCfg n { s.slotCfg n with allocation := a } s)) :=
    (putSlotCfg_acts n _ s).and (recomputeCommitted_acts _)
  unfold applyAllocation
  dsimp only
  generalize recomputeCommitted (putSlotCfg n { s.slotCfg n with allocation := a } s) = u at h ⊢
  refine h.trans ?_
  repeat' (first
    | with_reducible exact .refl _ _
    | exact (setSlotState_acts ..).up
    | exact (seedSlot_acts ..).up
    | split)

theorem applyZone_acts (n : Fin 48) (z : Fin 8) (s : State) : Acts [.ldm, .seq, .ulc, .lvs] s (applyZone n z s) := by
  unfold applyZone
  try dsimp only
  repeat' (first
    | with_reducible exact .refl _ _
    | with_reducible apply (isolateSlot_acts ..).next rfl
    | with_reducible apply (setSlotState_acts ..).next rfl
    | with_reducible apply (putSlotCfg_acts ..).next rfl
    | split)

theorem applySlotState_acts (b : Bool) (n : Fin 48) (w : SlotWrite) (s : State) :
    Acts [.ldm, .seq, .ulc, .lvs] s (applySlotState b n w s) := by
  unfold applySlotState
  try dsimp only
  repeat' (first
    | with_reducible exact .refl _ _
    | with_reducible apply (applyZone_acts ..).next rfl
    | with_reducible apply (applyAllocation_acts ..).next rfl
    | split)

theorem applySlot_acts (b : Bool) (n : Fin 48) (w : SlotWrite) (s : State) : Acts [.ldm, .seq, .ulc, .lvs] s (applySlot b n w s) := by
  unfold applySlot
  try dsimp only
  repeat' (first
    | with_reducible exact .refl _ _
    | with_reducible apply (putSlotCfg_acts ..).next rfl
    | with_reducible apply (applySlotState_acts ..).next rfl)

end Sys2Proof.Laws
end

