-- ==== Sys2Proof/Laws/ActsSupply.lean ====
section
/-! SUPPORT. Laws/ActsSupply.lean: which blocks the Rectifier Supervisor's and the Battery Monitor's operations can change, one
lemma each, in the terms of `Acts`. -/
namespace Sys2Proof.Laws
set_option Elab.async false
open Sys2Proof.Machine Sys2Proof.Safety

/-! ## Rectifier -/

theorem recomputeCapacity_acts (s : State) : Acts [.rsv] s (recomputeCapacity s) := by
  unfold recomputeCapacity
  try dsimp only
  repeat' (first
    | with_reducible exact .refl _ _
    | with_reducible apply (mapRsv_acts ..).next rfl)

theorem putRect_acts (k : Fin 6) (r : Rectifier) (s : State) : Acts [.rsv] s (putRect k r s) := by
  unfold putRect
  try dsimp only
  repeat' (first
    | with_reducible exact .refl _ _
    | with_reducible apply (mapRsv_acts ..).next rfl
    | with_reducible apply (recomputeCapacity_acts ..).next rfl
    | with_reducible apply (post_acts ..).next rfl
    | split)

theorem mapRect_acts (k : Fin 6) (f : Rectifier → Rectifier) (s : State) : Acts [.rsv] s (mapRect k f s) := by
  unfold mapRect
  try dsimp only
  repeat' (first
    | with_reducible exact .refl _ _
    | with_reducible apply (putRect_acts ..).next rfl)

theorem faultEntry_acts (k : Fin 6) (s : State) : Acts [.rsv] s (faultEntry k s) := by
  unfold faultEntry
  try dsimp only
  repeat' (first
    | with_reducible exact .refl _ _
    | with_reducible apply (mapRect_acts ..).next rfl)

theorem attemptRetry_acts (k : Fin 6) (s : State) : Acts [.rsv, .ldm, .seq, .ulc] s (attemptRetry k s) := by
  unfold attemptRetry
  try dsimp only
  repeat' (first
    | with_reducible exact .refl _ _
    | with_reducible apply (placeModuleCall_acts ..).next rfl
    | with_reducible apply (mapRect_acts ..).next rfl
    | split)

theorem attemptIfDue_acts (k : Fin 6) (s : State) : Acts [.rsv, .ldm, .seq, .ulc] s (attemptIfDue k s) := by
  unfold attemptIfDue
  try dsimp only
  repeat' (first
    | with_reducible exact .refl _ _
    | with_reducible apply (attemptRetry_acts ..).next rfl
    | split)

theorem retryFailed_acts (k : Fin 6) (s : State) : Acts [.rsv] s (retryFailed k s) := by
  unfold retryFailed
  try dsimp only
  repeat' (first
    | with_reducible exact .refl _ _
    | with_reducible apply (mapRect_acts ..).next rfl)

theorem retryDelayExpired_acts (k : Fin 6) (s : State) : Acts [.rsv, .ldm, .seq, .ulc] s (retryDelayExpired k s) := by
  unfold retryDelayExpired
  try dsimp only
  repeat' (first
    | with_reducible exact .refl _ _
    | with_reducible apply (attemptRetry_acts ..).next rfl
    | with_reducible apply (mapRect_acts ..).next rfl
    | with_reducible apply (retryFailed_acts ..).next rfl
    | split)

theorem wake_acts (k : Fin 6) (s : State) : Acts [.ldm, .seq, .ulc] s (wake k s) := by
  unfold wake
  try dsimp only
  repeat' (first
    | with_reducible exact .refl _ _
    | with_reducible apply (placeModuleCall_acts ..).next rfl
    | split)

theorem rectifierClassActs_acts (k : Fin 6) (c : AnswerClass) (s : State) :
    Acts [.rsv, .ldm, .seq, .ulc] s (rectifierClassActs k c s) := by
  unfold rectifierClassActs
  try dsimp only
  repeat' (first
    | with_reducible exact .refl _ _
    | with_reducible apply (wake_acts ..).next rfl
    | with_reducible apply (withdrawQueued_acts ..).next rfl
    | with_reducible apply (faultEntry_acts ..).next rfl
    | with_reducible apply (mapRect_acts ..).next rfl
    | with_reducible apply (retryFailed_acts ..).next rfl
    | split)

theorem rectifierAnswer_acts (k : Fin 6) (a : RectifierAnswer) (s : State) :
    Acts [.rsv, .ldm, .seq, .ulc] s (rectifierAnswer k a s) := by
  unfold rectifierAnswer
  try dsimp only
  repeat' (first
    | with_reducible exact .refl _ _
    | with_reducible apply (rectifierClassActs_acts ..).next rfl
    | with_reducible apply (mapRect_acts ..).next rfl
    | with_reducible apply (mapRsv_acts ..).next rfl
    | with_reducible apply (recomputeCapacity_acts ..).next rfl
    | split)

theorem rectifierMissing_acts (k : Fin 6) (s : State) : Acts [.rsv, .ldm, .seq, .ulc] s (rectifierMissing k s) := by
  unfold rectifierMissing
  try dsimp only
  repeat' (first
    | with_reducible exact .refl _ _
    | with_reducible apply (withdrawQueued_acts ..).next rfl
    | with_reducible apply (mapRect_acts ..).next rfl)

theorem inputLeft_acts (k : Fin 6) (s : State) : Acts [.rsv] s (inputLeft k s) := by
  unfold inputLeft
  try dsimp only
  repeat' (first
    | with_reducible exact .refl _ _
    | with_reducible apply (mapRect_acts ..).next rfl
    | split)

theorem feedJudged_acts (k : Fin 6) (s : State) : Acts [.rsv, .ldm, .seq, .ulc] s (feedJudged k s) := by
  unfold feedJudged
  try dsimp only
  repeat' (first
    | with_reducible exact .refl _ _
    | with_reducible apply (attemptIfDue_acts ..).next rfl
    | with_reducible apply (inputLeft_acts ..).next rfl
    | split)

theorem phaseReported_acts (p : Fin 3) (s : State) : Acts [.rsv, .ldm, .seq, .ulc] s (phaseReported p s) := by
  unfold phaseReported
  try dsimp only
  repeat' (first
    | with_reducible exact .refl _ _
    | with_reducible apply (Acts.forEach (bs := [.rsv, .ldm, .seq, .ulc]) (fun _ _ => feedJudged_acts ..) _ _).next rfl)

theorem runTimeSecond_acts (k : Fin 6) (s : State) : Acts [.rsv] s (runTimeSecond k s) := by
  unfold runTimeSecond
  try dsimp only
  repeat' (first
    | with_reducible exact .refl _ _
    | with_reducible apply (mapRect_acts ..).next rfl
    | split)

theorem applyRetryLimit_acts (s : State) : Acts [.rsv] s (applyRetryLimit s) := by
  unfold applyRetryLimit
  try dsimp only
  repeat' (first
    | with_reducible exact .refl _ _
    | with_reducible apply (Acts.forEach (bs := [.rsv]) (fun _ _ => mapRect_acts ..) _ _).next rfl)

theorem moduleCallFailed_acts (k : Fin 6) (kind : CommandKind) (o : CallOutcome) (s : State) :
    Acts [] s (moduleCallFailed k kind o s) := by
  unfold moduleCallFailed
  try dsimp only
  repeat' (first
    | with_reducible exact .refl _ _
    | with_reducible apply (post_acts ..).next rfl)

theorem moduleOutcome_acts (k : Fin 6) (kind : CommandKind) (retry : Bool) (o : CallOutcome) (s : State) :
    Acts [.rsv] s (moduleOutcome k kind retry o s) := by
  unfold moduleOutcome
  try dsimp only
  repeat' (first
    | with_reducible exact .refl _ _
    | with_reducible apply (mapRect_acts ..).next rfl
    | with_reducible apply (retryFailed_acts ..).next rfl
    | with_reducible apply (moduleCallFailed_acts ..).next rfl
    | split)

/-! ## Battery -/

theorem mapBatt_acts (i : Fin 4) (f : Battery → Battery) (s : State) : Acts [.bmn] s (mapBatt i f s) := by
  unfold mapBatt
  try dsimp only
  repeat' (first
    | with_reducible exact .refl _ _
    | with_reducible apply (mapBmn_acts ..).next rfl)

theorem mapTest_acts (f : TestContext → TestContext) (s : State) : Acts [.bmn] s (mapTest f s) := by
  unfold mapTest
  try dsimp only
  repeat' (first
    | with_reducible exact .refl _ _
    | with_reducible apply (mapBmn_acts ..).next rfl)

theorem postBattery_acts (i : Fin 4) (old : BatteryState) (cause : BatteryCause) (s : State) :
    Acts [] s (postBattery i old cause s) := by
  unfold postBattery
  try dsimp only
  repeat' (first
    | with_reducible exact .refl _ _
    | with_reducible apply (post_acts ..).next rfl)

theorem turnBatt_acts (i : Fin 4) (state : BatteryState) (cause : BatteryCause) (s : State) :
    Acts [.bmn] s (turnBatt i state cause s) := by
  unfold turnBatt
  try dsimp only
  repeat' (first
    | with_reducible exact .refl _ _
    | with_reducible apply (mapBatt_acts ..).next rfl
    | with_reducible apply (postBattery_acts ..).next rfl
    | split)

theorem markDepleted_acts (i : Fin 4) (s : State) : Acts [.bmn] s (markDepleted i s) := by
  unfold markDepleted
  try dsimp only
  repeat' (first
    | with_reducible exact .refl _ _
    | with_reducible apply (turnBatt_acts ..).next rfl
    | split)

theorem markAll_acts (s : State) : Acts [.bmn] s (markAll s) := by
  unfold markAll
  try dsimp only
  repeat' (first
    | with_reducible exact .refl _ _
    | with_reducible apply (Acts.forEach (bs := [.bmn]) (fun _ _ => markDepleted_acts ..) _ _).next rfl)

theorem testIdle_acts (s : State) : Acts [.bmn] s (testIdle s) := by
  unfold testIdle
  try dsimp only
  repeat' (first
    | with_reducible exact .refl _ _
    | with_reducible apply (mapTest_acts ..).next rfl)

theorem testClosing_acts (s : State) : Acts [.bmn] s (testClosing s) := by
  unfold testClosing
  try dsimp only
  repeat' (first
    | with_reducible exact .refl _ _
    | with_reducible apply (mapTest_acts ..).next rfl)

theorem releaseLoad_acts (i : Fin 4) (s : State) : Acts [.bmn, .ulc] s (releaseLoad i s) := by
  unfold releaseLoad
  try dsimp only
  repeat' (first
    | with_reducible exact .refl _ _
    | with_reducible apply (mapTest_acts ..).next rfl
    | with_reducible apply (placeTestLoad_acts ..).next rfl
    | split)

theorem releaseAfterAbort_acts (i : Fin 4) (phase : TestPhase) (s : State) :
    Acts [.bmn, .ldm, .seq, .ulc] s (releaseAfterAbort i phase s) := by
  unfold releaseAfterAbort
  try dsimp only
  repeat' (first
    | with_reducible exact .refl _ _
    | with_reducible apply (withdrawQueued_acts ..).next rfl
    | with_reducible apply (releaseLoad_acts ..).next rfl
    | with_reducible apply (testClosing_acts ..).next rfl
    | with_reducible apply (testIdle_acts ..).next rfl
    | split)

theorem postResult_acts (i : Fin 4) (t : TestRecord) (s : State) : Acts [.bmn] s (postResult i t s) := by
  unfold postResult
  try dsimp only
  repeat' (first
    | with_reducible exact .refl _ _
    | with_reducible apply (mapBatt_acts ..).next rfl
    | with_reducible apply (post_acts ..).next rfl)

theorem abortTest_acts (cause : AbortCause) (state : BatteryState) (stateCause : BatteryCause) (s : State) :
    Acts [.bmn, .ldm, .seq, .ulc] s (abortTest cause state stateCause s) := by
  unfold abortTest
  try dsimp only
  repeat' (first
    | with_reducible exact .refl _ _
    | with_reducible apply (releaseAfterAbort_acts ..).next rfl
    | with_reducible apply (mapTest_acts ..).next rfl
    | with_reducible apply (postResult_acts ..).next rfl
    | with_reducible apply (testIdle_acts ..).next rfl
    | with_reducible apply (turnBatt_acts ..).next rfl
    | split)

theorem abortOnline_acts (cause : AbortCause) (s : State) : Acts [.bmn, .ldm, .seq, .ulc] s (abortOnline cause s) := by
  unfold abortOnline
  try dsimp only
  repeat' (first
    | with_reducible exact .refl _ _
    | with_reducible apply (abortTest_acts ..).next rfl)

theorem batteryFault_acts (i : Fin 4) (cause : BatteryCause) (s : State) :
    Acts [.bmn, .ldm, .seq, .ulc] s (batteryFault i cause s) := by
  unfold batteryFault
  try dsimp only
  repeat' (first
    | with_reducible exact .refl _ _
    | with_reducible apply (abortTest_acts ..).next rfl
    | with_reducible apply (turnBatt_acts ..).next rfl
    | split)

theorem batteryFaultExit_acts (i : Fin 4) (s : State) : Acts [.bmn] s (batteryFaultExit i s) := by
  unfold batteryFaultExit
  try dsimp only
  repeat' (first
    | with_reducible exact .refl _ _
    | with_reducible apply (mapBatt_acts ..).next rfl
    | with_reducible apply (markDepleted_acts ..).next rfl
    | with_reducible apply (postBattery_acts ..).next rfl
    | split)

theorem batterySeed_acts (i : Fin 4) (a : BatteryAnswer) (s : State) : Acts [.bmn] s (batterySeed i a s) := by
  unfold batterySeed
  try dsimp only
  repeat' (first
    | with_reducible exact .refl _ _
    | with_reducible apply (mapBatt_acts ..).next rfl
    | with_reducible apply (markDepleted_acts ..).next rfl
    | with_reducible apply (postBattery_acts ..).next rfl)

theorem batteryAnswer_acts (i : Fin 4) (a : BatteryAnswer) (s : State) :
    Acts [.bmn, .ldm, .seq, .ulc] s (batteryAnswer i a s) := by
  unfold batteryAnswer
  try dsimp only
  repeat' (first
    | with_reducible exact .refl _ _
    | with_reducible apply (batteryFault_acts ..).next rfl
    | with_reducible apply (batteryFaultExit_acts ..).next rfl
    | with_reducible apply (mapBatt_acts ..).next rfl
    | with_reducible apply (markDepleted_acts ..).next rfl
    | split)

theorem batteryMissing_acts (i : Fin 4) (s : State) : Acts [.bmn, .ldm, .seq, .ulc] s (batteryMissing i s) := by
  unfold batteryMissing
  try dsimp only
  repeat' (first
    | with_reducible exact .refl _ _
    | with_reducible apply (abortTest_acts ..).next rfl
    | with_reducible apply (withdrawQueued_acts ..).next rfl
    | with_reducible apply (mapBatt_acts ..).next rfl
    | with_reducible apply (testIdle_acts ..).next rfl
    | with_reducible apply (turnBatt_acts ..).next rfl
    | split)

theorem countModule_acts (frame : SenseFrame) (i : Fin 4) (s : State) : Acts [.bmn] s (countModule frame i s) := by
  unfold countModule
  try dsimp only
  repeat' (first
    | with_reducible exact .refl _ _
    | with_reducible apply (mapBatt_acts ..).next rfl
    | with_reducible apply (markDepleted_acts ..).next rfl
    | split)

theorem testTemperature_acts (i : Fin 4) (s : State) : Acts [.bmn, .ldm, .seq, .ulc] s (testTemperature i s) := by
  unfold testTemperature
  try dsimp only
  repeat' (first
    | with_reducible exact .refl _ _
    | with_reducible apply (batteryFault_acts ..).next rfl
    | with_reducible apply (batteryFaultExit_acts ..).next rfl
    | with_reducible apply (mapBatt_acts ..).next rfl
    | split)

theorem batteryWindow_acts (s : State) : Acts [.bmn, .ldm, .seq, .ulc] s (batteryWindow s) := by
  unfold batteryWindow
  try dsimp only
  repeat' (first
    | with_reducible exact .refl _ _
    | with_reducible apply (Acts.forEach (bs := [.bmn, .ldm, .seq, .ulc]) (fun _ _ => testTemperature_acts ..) _ _).next rfl)

theorem batteryBridgeReport_acts (old new : BridgeState) (s : State) :
    Acts [.bmn, .ldm, .seq, .ulc] s (batteryBridgeReport old new s) := by
  have h : Acts [.bmn, .ldm, .seq, .ulc] s (s.mapBmn fun m => { m with lastBridge := new }) := (mapBmn_acts _ s).up
  have k : Acts [.bmn, .ldm, .seq, .ulc] s
      (if old = .grid ∧ new ≠ .grid then abortOnline .bridge (s.mapBmn fun m => { m with lastBridge := new })
      else s.mapBmn fun m => { m with lastBridge := new }) := by
    split
    · exact h.trans (abortOnline_acts _ _).up
    · exact h
  unfold batteryBridgeReport
  dsimp only
  generalize (if old = .grid ∧ new ≠ .grid then _ else _ : State) = u at k ⊢
  cases new
  · refine k.trans (Acts.up (as := [.bmn]) (.forEach (fun i s => ?_) _ u))
    split
    · exact turnBatt_acts ..
    · exact .refl _ _
  · exact k.trans (markAll_acts u).up
  · exact k
  · exact k

theorem batteryAcReport_acts (old new : AcState) (s : State) : Acts [.bmn, .ldm, .seq, .ulc] s (batteryAcReport old new s) := by
  unfold batteryAcReport
  try dsimp only
  repeat' (first
    | with_reducible exact .refl _ _
    | with_reducible apply (abortOnline_acts ..).next rfl
    | split)

theorem beginTest_acts (i : Fin 4) (s : State) : Acts [.bmn] s (beginTest i s) := by
  unfold beginTest
  try dsimp only
  repeat' (first
    | with_reducible exact .refl _ _
    | with_reducible apply (mapTest_acts ..).next rfl
    | with_reducible apply (turnBatt_acts ..).next rfl)

theorem testFrame_acts (frame : SenseFrame) (s : State) : Acts [.bmn] s (testFrame frame s) := by
  unfold testFrame
  try dsimp only
  repeat' (first
    | with_reducible exact .refl _ _
    | with_reducible apply (mapTest_acts ..).next rfl
    | split)

theorem baselineEnd_acts (s : State) : Acts [.bmn, .ldm, .seq, .ulc] s (baselineEnd s) := by
  unfold baselineEnd
  try dsimp only
  repeat' (first
    | with_reducible exact .refl _ _
    | with_reducible apply (abortOnline_acts ..).next rfl
    | with_reducible apply (mapTest_acts ..).next rfl
    | with_reducible apply (placeTestLoad_acts ..).next rfl
    | split)

theorem settleEnd_acts (s : State) : Acts [.bmn] s (settleEnd s) := by
  unfold settleEnd
  try dsimp only
  repeat' (first
    | with_reducible exact .refl _ _
    | with_reducible apply (mapTest_acts ..).next rfl
    | split)

theorem measureEnd_acts (s : State) : Acts [.bmn, .ulc] s (measureEnd s) := by
  unfold measureEnd
  try dsimp only
  repeat' (first
    | with_reducible exact .refl _ _
    | with_reducible apply (releaseLoad_acts ..).next rfl
    | with_reducible apply (mapTest_acts ..).next rfl
    | split)

theorem placeOwedRelease_acts (s : State) : Acts [.bmn, .ulc] s (placeOwedRelease s) := by
  unfold placeOwedRelease
  try dsimp only
  repeat' (first
    | with_reducible exact .refl _ _
    | with_reducible apply (releaseLoad_acts ..).next rfl
    | split)

theorem releaseSettleEnd_acts (s : State) : Acts [.bmn] s (releaseSettleEnd s) := by
  unfold releaseSettleEnd
  split
  · split
    · rcases e : s.bmn.test.pending with _ | (r | _) <;> simp only [e]
      · exact .after (testIdle_acts ..) (.after (postResult_acts ..) (turnBatt_acts ..))
      · exact .after (testIdle_acts ..) (.after (postResult_acts ..) (.after (turnBatt_acts ..) (mapBatt_acts ..)))
      · exact .after (testIdle_acts ..) (.after (postResult_acts ..) (turnBatt_acts ..))
    · exact .refl _ _
  · exact .refl _ _

theorem testLoadOutcome_acts (i : Fin 4) (kind : CommandKind) (o : CallOutcome) (s : State) :
    Acts [.bmn, .ldm, .seq, .ulc] s (testLoadOutcome i kind o s) := by
  unfold testLoadOutcome
  try dsimp only
  repeat' (first
    | with_reducible exact .refl _ _
    | with_reducible apply (abortOnline_acts ..).next rfl
    | with_reducible apply (releaseLoad_acts ..).next rfl
    | with_reducible apply (mapTest_acts ..).next rfl
    | with_reducible apply (testIdle_acts ..).next rfl
    | with_reducible apply (post_acts ..).next rfl
    | split)

theorem batteryRestart_acts (offWasQueued : Bool) (s : State) :
    Acts [.bmn, .ldm, .seq, .ulc] s (batteryRestart offWasQueued s) := by
  unfold batteryRestart
  try dsimp only
  repeat' (first
    | with_reducible exact .refl _ _
    | with_reducible apply (abortOnline_acts ..).next rfl
    | with_reducible apply (releaseLoad_acts ..).next rfl
    | with_reducible apply (testIdle_acts ..).next rfl
    | split)

theorem applyCapacity_acts (i : Fin 4) (s : State) : Acts [.bmn] s (applyCapacity i s) := by
  unfold applyCapacity
  try dsimp only
  repeat' (first
    | with_reducible exact .refl _ _
    | with_reducible apply (mapBatt_acts ..).next rfl
    | with_reducible apply (markDepleted_acts ..).next rfl)

theorem applyDefaultR_acts (s : State) : Acts [.bmn] s (applyDefaultR s) := by
  unfold applyDefaultR
  try dsimp only
  repeat' (first
    | with_reducible exact .refl _ _
    | with_reducible apply (Acts.forEach (bs := [.bmn]) (fun _ _ => mapBatt_acts ..) _ _).next rfl)

end Sys2Proof.Laws
end

