-- ==== Sys2Proof/Laws/ActsSequencer.lean ====
section
/-! SUPPORT. Laws/ActsSequencer.lean: which blocks the operations of the Power-Up Sequencer, the Bridge Controller, the AC Line
Monitor, the Sense Front-End and the Leak Monitor can change, one lemma each, in the terms of `Acts`. -/
namespace Sys2Proof.Laws
set_option Elab.async false
open Sys2Proof.Machine Sys2Proof.Safety

/-! ## Sequencer -/

theorem postHold_acts (r : HoldReason) (s : State) : Acts [] s (postHold r s) := by
  unfold postHold
  try dsimp only
  repeat' (first
    | with_reducible exact .refl _ _
    | with_reducible apply (post_acts ..).next rfl)

theorem hold_acts (prior : Option HoldReason) (r : HoldReason) (s : State) : Acts [.seq] s (hold prior r s) := by
  unfold hold
  try dsimp only
  repeat' (first
    | with_reducible exact .refl _ _
    | with_reducible apply (mapSeq_acts ..).next rfl
    | with_reducible apply (postHold_acts ..).next rfl
    | split)

theorem postSkipped_acts (n : Fin 48) (kind reason : Nat) (s : State) : Acts [] s (postSkipped n kind reason s) := by
  unfold postSkipped
  try dsimp only
  repeat' (first
    | with_reducible exact .refl _ _
    | with_reducible apply (post_acts ..).next rfl)

theorem finishJudging_acts (p : PlanStep) (s : State) : Acts [.seq] s (finishJudging p s) := by
  unfold finishJudging
  try dsimp only
  repeat' (first
    | with_reducible exact .refl _ _
    | with_reducible apply (enterSettling_acts ..).next rfl
    | with_reducible apply (mapSeq_acts ..).next rfl
    | with_reducible apply (testAwait_acts ..).next rfl
    | split)

theorem enterRunning_acts (s : State) : Acts [.seq] s (enterRunning s) := by
  unfold enterRunning
  try dsimp only
  repeat' (first
    | with_reducible exact .refl _ _
    | with_reducible apply (finishJudging_acts ..).next rfl
    | with_reducible apply (mapSeq_acts ..).next rfl
    | split)

theorem beginStep_acts (s : State) : Acts [.seq] s (beginStep s) := by
  unfold beginStep
  try dsimp only
  repeat' (first
    | with_reducible exact .refl _ _
    | with_reducible apply (enterRunning_acts ..).next rfl
    | with_reducible apply (hold_acts ..).next rfl
    | with_reducible apply (mapSeq_acts ..).next rfl
    | split)

theorem advanceCursor_acts (s : State) : Acts [.seq] s (advanceCursor s) := by
  unfold advanceCursor
  try dsimp only
  repeat' (first
    | with_reducible exact .refl _ _
    | with_reducible apply (enterRunning_acts ..).next rfl
    | with_reducible apply (mapSeq_acts ..).next rfl)

theorem askAdmission_acts (prior : Option HoldReason) (n : Fin 48) (s : State) :
    Acts [.brc, .ldm, .seq, .ulc] s (askAdmission prior n s) := by
  unfold askAdmission
  split
  next t h => exact (admitSlot_acts h).trans ((mapSeq_acts _ t).and (advanceCursor_acts _))
  next r _ =>
    split
    · exact (hold_acts ..).up
    · exact (postSkipped_acts n 1 r.code s).and (advanceCursor_acts _)

theorem judgeSlotAt_acts (prior : Option HoldReason) (n : Fin 48) (s : State) :
    Acts [.brc, .ldm, .seq, .ulc] s (judgeSlotAt prior n s) := by
  unfold judgeSlotAt
  try dsimp only
  repeat' (first
    | with_reducible exact .refl _ _
    | with_reducible apply (askAdmission_acts ..).next rfl
    | with_reducible apply (advanceCursor_acts ..).next rfl
    | with_reducible apply (postSkipped_acts ..).next rfl
    | split)

theorem judgeCursor_acts (prior : Option HoldReason) (s : State) : Acts [.brc, .ldm, .seq, .ulc] s (judgeCursor prior s) := by
  unfold judgeCursor
  try dsimp only
  repeat' (first
    | with_reducible exact .refl _ _
    | with_reducible apply (judgeSlotAt_acts ..).next rfl
    | with_reducible apply (enterRunning_acts ..).next rfl
    | split)

theorem seqJudgeSlot_acts (s : State) : Acts [.brc, .ldm, .seq, .ulc] s (seqJudgeSlot s) := by
  unfold seqJudgeSlot
  try dsimp only
  repeat' (first
    | with_reducible exact .refl _ _
    | with_reducible apply (judgeCursor_acts ..).next rfl
    | split)

theorem reattempt_acts (prior : Option HoldReason) (s : State) : Acts [.brc, .ldm, .seq, .ulc] s (reattempt prior s) := by
  unfold reattempt
  try dsimp only
  repeat' (first
    | with_reducible exact .refl _ _
    | with_reducible apply (judgeCursor_acts ..).next rfl
    | with_reducible apply (mapSeq_acts ..).next rfl)

theorem promote_acts (p : Plan) (s : State) : Acts [.seq] s (promote p s) := by
  unfold promote
  try dsimp only
  repeat' (first
    | with_reducible exact .refl _ _
    | with_reducible apply (beginStep_acts ..).next rfl
    | with_reducible apply (mapSeq_acts ..).next rfl
    | with_reducible apply (post_acts ..).next rfl)

theorem nextPlan_acts (s : State) : Acts [.seq] s (nextPlan s) := by
  unfold nextPlan
  try dsimp only
  repeat' (first
    | with_reducible exact .refl _ _
    | with_reducible apply (mapSeq_acts ..).next rfl
    | with_reducible apply (promote_acts ..).next rfl
    | split)

theorem completePlan_acts (s : State) : Acts [.seq] s (completePlan s) := by
  unfold completePlan
  try dsimp only
  repeat' (first
    | with_reducible exact .refl _ _
    | with_reducible apply (mapSeq_acts ..).next rfl
    | with_reducible apply (nextPlan_acts ..).next rfl
    | with_reducible apply (post_acts ..).next rfl)

theorem settleTimerExpiry_acts (s : State) : Acts [.seq] s (settleTimerExpiry s) := by
  unfold settleTimerExpiry
  try dsimp only
  repeat' (first
    | with_reducible exact .refl _ _
    | with_reducible apply (beginStep_acts ..).next rfl
    | with_reducible apply (completePlan_acts ..).next rfl
    | with_reducible apply (mapSeq_acts ..).next rfl
    | split)

theorem awaitTimerExpiry_acts (s : State) : Acts [.seq] s (awaitTimerExpiry s) := by
  unfold awaitTimerExpiry
  try dsimp only
  repeat' (first
    | with_reducible exact .refl _ _
    | with_reducible apply (enterSettling_acts ..).next rfl
    | with_reducible apply (hold_acts ..).next rfl
    | with_reducible apply (mapSeq_acts ..).next rfl
    | with_reducible apply (post_acts ..).next rfl
    | split)

theorem mapRestore_acts (f : RestoreRun → RestoreRun) (s : State) : Acts [.seq] s (mapRestore f s) := by
  unfold mapRestore
  try dsimp only
  repeat' (first
    | with_reducible exact .refl _ _
    | with_reducible apply (mapSeq_acts ..).next rfl)

theorem liftBridging_acts (s : State) : Acts [.seq] s (liftBridging s) := by
  unfold liftBridging
  try dsimp only
  repeat' (first
    | with_reducible exact .refl _ _
    | with_reducible apply (beginStep_acts ..).next rfl
    | with_reducible apply (enterRunning_acts ..).next rfl
    | split)

theorem endRestore_acts (r : RestoreRun) (s : State) : Acts [.seq] s (endRestore r s) := by
  unfold endRestore
  try dsimp only
  repeat' (first
    | with_reducible exact .refl _ _
    | with_reducible apply (liftBridging_acts ..).next rfl
    | with_reducible apply (mapSeq_acts ..).next rfl
    | with_reducible apply (nextPlan_acts ..).next rfl
    | with_reducible apply (testAwait_acts ..).next rfl
    | with_reducible apply (post_acts ..).next rfl
    | split)

theorem postRestoreHold_acts (n : Fin 48) (r : RefusalReason) (s : State) : Acts [] s (postRestoreHold n r s) := by
  unfold postRestoreHold
  try dsimp only
  repeat' (first
    | with_reducible exact .refl _ _
    | with_reducible apply (post_acts ..).next rfl)

theorem restoreAdmit_acts (prior : Option RefusalReason) (s : State) : Acts [.brc, .ldm, .seq, .ulc] s (restoreAdmit prior s) := by
  unfold restoreAdmit
  split
  · exact .refl _ _
  · split
    · exact (endRestore_acts ..).up
    · split
      next h => exact (admitSlot_acts h).trans (mapRestore_acts ..).up
      next e _ =>
        have h := mapRestore_acts (fun r => { r with phase := .held, hold := some e, slot := none, timer := none }) s
        dsimp only
        split
        · exact h.up
        · exact h.and (postRestoreHold_acts ..)

theorem startRestore_acts (s : State) : Acts [.brc, .ldm, .seq, .ulc] s (startRestore s) := by
  unfold startRestore
  try dsimp only
  repeat' (first
    | with_reducible exact .refl _ _
    | with_reducible apply (restoreAdmit_acts ..).next rfl
    | with_reducible apply (mapSeq_acts ..).next rfl)

theorem restoreSettleExpiry_acts (s : State) : Acts [.brc, .ldm, .seq, .ulc] s (restoreSettleExpiry s) := by
  unfold restoreSettleExpiry
  try dsimp only
  repeat' (first
    | with_reducible exact .refl _ _
    | with_reducible apply (restoreAdmit_acts ..).next rfl
    | with_reducible apply (mapRestore_acts ..).next rfl
    | split)

theorem sequencerWindow_acts (s : State) : Acts [.brc, .ldm, .seq, .ulc] s (sequencerWindow s) := by
  unfold sequencerWindow
  try dsimp only
  repeat' (first
    | with_reducible exact .refl _ _
    | with_reducible apply (reattempt_acts ..).next rfl
    | with_reducible apply (restoreAdmit_acts ..).next rfl
    | with_reducible apply (hold_acts ..).next rfl
    | with_reducible apply (mapRestore_acts ..).next rfl
    | split)

theorem sequencerDeparture_acts (s : State) : Acts [.seq] s (sequencerDeparture s) := by
  unfold sequencerDeparture
  try dsimp only
  repeat' (first
    | with_reducible exact .refl _ _
    | with_reducible apply (hold_acts ..).next rfl
    | with_reducible apply (mapRestore_acts ..).next rfl
    | with_reducible apply (mapSeq_acts ..).next rfl
    | split)

theorem sequencerGridEntry_acts (s : State) : Acts [.brc, .ldm, .seq, .ulc] s (sequencerGridEntry s) := by
  unfold sequencerGridEntry
  try dsimp only
  repeat' (first
    | with_reducible exact .refl _ _
    | with_reducible apply (restoreAdmit_acts ..).next rfl
    | with_reducible apply (startRestore_acts ..).next rfl
    | with_reducible apply (hold_acts ..).next rfl
    | with_reducible apply (liftBridging_acts ..).next rfl
    | with_reducible apply (mapRestore_acts ..).next rfl
    | with_reducible apply (mapSeq_acts ..).next rfl
    | split)

theorem sequencerSilence_acts (s : State) : Acts [.seq] s (sequencerSilence s) := by
  unfold sequencerSilence
  try dsimp only
  repeat' (first
    | with_reducible exact .refl _ _
    | with_reducible apply (mapSeq_acts ..).next rfl)

theorem sequencerSilenceCleared_acts (s : State) : Acts [.seq] s (sequencerSilenceCleared s) := by
  unfold sequencerSilenceCleared
  try dsimp only
  repeat' (first
    | with_reducible exact .refl _ _
    | with_reducible apply (beginStep_acts ..).next rfl
    | with_reducible apply (mapSeq_acts ..).next rfl
    | split)

theorem resumeHeld_acts (r : HoldReason) (s : State) : Acts [.brc, .ldm, .seq, .ulc] s (resumeHeld r s) := by
  unfold resumeHeld
  try dsimp only
  repeat' (first
    | with_reducible exact .refl _ _
    | with_reducible apply (reattempt_acts ..).next rfl
    | with_reducible apply (beginStep_acts ..).next rfl
    | with_reducible apply (liftBridging_acts ..).next rfl
    | with_reducible apply (postHold_acts ..).next rfl
    | split)

theorem resumeTo_acts (st : SeqState) (r : Option HoldReason) (s : State) : Acts [.brc, .ldm, .seq, .ulc] s (resumeTo st r s) := by
  unfold resumeTo
  try dsimp only
  repeat' (first
    | with_reducible exact .refl _ _
    | with_reducible apply (resumeHeld_acts ..).next rfl
    | with_reducible apply (mapSeq_acts ..).next rfl
    | with_reducible apply (testAwait_acts ..).next rfl
    | split)

theorem planCancel_acts (s : State) : Acts [.ldm, .seq, .ulc] s (planCancel s) := by
  unfold planCancel
  try dsimp only
  repeat' (first
    | with_reducible exact .refl _ _
    | with_reducible apply (Acts.forEach (bs := [.ldm, .seq, .ulc]) (fun _ _ => withdrawPowerOn_acts ..) _ _).next rfl
    | with_reducible apply (Acts.forEach (bs := [.seq]) (fun _ _ => mapSeq_acts ..) _ _).next rfl
    | with_reducible apply (Acts.forEach (bs := []) (fun _ _ => post_acts ..) _ _).next rfl
    | with_reducible apply (withdrawPowerOn_acts ..).next rfl
    | with_reducible apply (mapSeq_acts ..).next rfl
    | with_reducible apply (post_acts ..).next rfl)

theorem sequencerRestart_acts (s : State) : Acts [.seq] s (sequencerRestart s) := by
  unfold sequencerRestart
  try dsimp only
  repeat' (first
    | with_reducible exact .refl _ _
    | with_reducible apply (mapSeq_acts ..).next rfl)

theorem sequencerSupervised_acts (s : State) : Acts [.seq] s (sequencerSupervised s) := by
  unfold sequencerSupervised
  try dsimp only
  repeat' (first
    | with_reducible exact .refl _ _
    | with_reducible apply (mapSeq_acts ..).next rfl
    | with_reducible apply (promote_acts ..).next rfl
    | split)

/-! ## Bridge -/

theorem postBridge_acts (old : BridgeState) (cause : BridgeCause) (seconds : Nat) (s : State) :
    Acts [] s (postBridge old cause seconds s) := by
  unfold postBridge
  try dsimp only
  repeat' (first
    | with_reducible exact .refl _ _
    | with_reducible apply (post_acts ..).next rfl)

theorem enterBridging_acts (cause : BridgeCause) (s : State) :
    Acts [.bmn, .brc, .ldm, .seq, .ulc] s (enterBridging cause s) := by
  unfold enterBridging
  try dsimp only
  repeat' (first
    | with_reducible exact .refl _ _
    | with_reducible apply (batteryBridgeReport_acts ..).next rfl
    | with_reducible apply (loadManagerDeparture_acts ..).next rfl
    | with_reducible apply (mapBrc_acts ..).next rfl
    | with_reducible apply (sequencerDeparture_acts ..).next rfl
    | with_reducible apply (postBridge_acts ..).next rfl)

theorem returnToBridging_acts (cause : BridgeCause) (s : State) :
    Acts [.bmn, .brc, .ldm, .seq, .ulc] s (returnToBridging cause s) := by
  unfold returnToBridging
  try dsimp only
  repeat' (first
    | with_reducible exact .refl _ _
    | with_reducible apply (batteryBridgeReport_acts ..).next rfl
    | with_reducible apply (mapBrc_acts ..).next rfl
    | with_reducible apply (postBridge_acts ..).next rfl)

theorem enterRecovering_acts (s : State) : Acts [.bmn, .brc, .ldm, .seq, .ulc] s (enterRecovering s) := by
  unfold enterRecovering
  try dsimp only
  repeat' (first
    | with_reducible exact .refl _ _
    | with_reducible apply (batteryBridgeReport_acts ..).next rfl
    | with_reducible apply (mapBrc_acts ..).next rfl
    | with_reducible apply (postBridge_acts ..).next rfl)

theorem enterGrid_acts (s : State) : Acts [.bmn, .brc, .ldm, .seq, .ulc] s (enterGrid s) := by
  unfold enterGrid
  try dsimp only
  repeat' (first
    | with_reducible exact .refl _ _
    | with_reducible apply (batteryBridgeReport_acts ..).next rfl
    | with_reducible apply (sequencerGridEntry_acts ..).next rfl
    | with_reducible apply (mapBrc_acts ..).next rfl
    | with_reducible apply (postBridge_acts ..).next rfl)

theorem stableTimerExpiry_acts (s : State) : Acts [.bmn, .brc, .ldm, .seq, .ulc] s (stableTimerExpiry s) := by
  unfold stableTimerExpiry
  try dsimp only
  repeat' (first
    | with_reducible exact .refl _ _
    | with_reducible apply (enterGrid_acts ..).next rfl
    | split)

theorem shedSettleExpiry_acts (s : State) : Acts [.brc] s (shedSettleExpiry s) := by
  unfold shedSettleExpiry
  try dsimp only
  repeat' (first
    | with_reducible exact .refl _ _
    | with_reducible apply (mapBrc_acts ..).next rfl)

theorem shedReported_acts (reason : ShedReason) (amount sum shortfall : Nat) (s : State) :
    Acts [.brc] s (shedReported reason amount sum shortfall s) := by
  unfold shedReported
  try dsimp only
  repeat' (first
    | with_reducible exact .refl _ _
    | with_reducible apply (mapBrc_acts ..).next rfl
    | with_reducible apply (post_acts ..).next rfl
    | split)

theorem sendShed_acts (amount : Nat) (reason : ShedReason) (s : State) :
    Acts [.brc, .ldm, .seq, .ulc] s (sendShed amount reason s) := by
  unfold sendShed
  try dsimp only
  repeat' (first
    | with_reducible exact .refl _ _
    | with_reducible apply (shedRequest_acts ..).next rfl
    | with_reducible apply (mapBrc_acts ..).next rfl
    | with_reducible apply (shedReported_acts ..).next rfl)

theorem enterDepleted_acts (s : State) : Acts [.bmn, .brc, .ldm, .seq, .ulc] s (enterDepleted s) := by
  unfold enterDepleted
  try dsimp only
  repeat' (first
    | with_reducible exact .refl _ _
    | with_reducible apply (batteryBridgeReport_acts ..).next rfl
    | with_reducible apply (sendShed_acts ..).next rfl
    | with_reducible apply (mapBrc_acts ..).next rfl
    | with_reducible apply (postBridge_acts ..).next rfl)

theorem storeEstimate_acts (e : Estimate) (s : State) : Acts [.brc] s (storeEstimate e s) := by
  unfold storeEstimate
  try dsimp only
  repeat' (first
    | with_reducible exact .refl _ _
    | with_reducible apply (mapBrc_acts ..).next rfl)

theorem windowInGrid_acts (s : State) : Acts [.bmn, .brc, .ldm, .seq, .ulc] s (windowInGrid s) := by
  unfold windowInGrid
  try dsimp only
  repeat' (first
    | with_reducible exact .refl _ _
    | with_reducible apply (enterBridging_acts ..).next rfl
    | with_reducible apply (storeEstimate_acts ..).next rfl
    | split)

theorem windowInBridging_acts (s : State) : Acts [.bmn, .brc, .ldm, .seq, .ulc] s (windowInBridging s) := by
  unfold windowInBridging
  try dsimp only
  repeat' (first
    | with_reducible exact .refl _ _
    | with_reducible apply (enterDepleted_acts ..).next rfl
    | with_reducible apply (enterRecovering_acts ..).next rfl
    | with_reducible apply (sendShed_acts ..).next rfl
    | with_reducible apply (storeEstimate_acts ..).next rfl
    | split)

theorem windowInRecovering_acts (s : State) : Acts [.bmn, .brc, .ldm, .seq, .ulc] s (windowInRecovering s) := by
  unfold windowInRecovering
  try dsimp only
  repeat' (first
    | with_reducible exact .refl _ _
    | with_reducible apply (returnToBridging_acts ..).next rfl
    | with_reducible apply (storeEstimate_acts ..).next rfl
    | split)

theorem windowInDepleted_acts (s : State) : Acts [.bmn, .brc, .ldm, .seq, .ulc] s (windowInDepleted s) := by
  unfold windowInDepleted
  try dsimp only
  repeat' (first
    | with_reducible exact .refl _ _
    | with_reducible apply (enterRecovering_acts ..).next rfl
    | with_reducible apply (sendShed_acts ..).next rfl
    | with_reducible apply (storeEstimate_acts ..).next rfl
    | split)

theorem bridgeWindow_acts (s : State) : Acts [.bmn, .brc, .ldm, .seq, .ulc] s (bridgeWindow s) := by
  unfold bridgeWindow
  try dsimp only
  repeat' (first
    | with_reducible exact .refl _ _
    | with_reducible apply (windowInBridging_acts ..).next rfl
    | with_reducible apply (windowInDepleted_acts ..).next rfl
    | with_reducible apply (windowInGrid_acts ..).next rfl
    | with_reducible apply (windowInRecovering_acts ..).next rfl
    | with_reducible apply (readCapacity_acts ..).next rfl
    | split)

theorem bridgeAcReport_acts (old new : AcState) (s : State) :
    Acts [.bmn, .brc, .ldm, .seq, .ulc] s (bridgeAcReport old new s) := by
  unfold bridgeAcReport
  try dsimp only
  repeat' (first
    | with_reducible exact .refl _ _
    | with_reducible apply (enterBridging_acts ..).next rfl
    | with_reducible apply (returnToBridging_acts ..).next rfl
    | with_reducible apply (mapBrc_acts ..).next rfl
    | split)

/-! ## AcLine -/

theorem recomputeShelf_acts (s : State) : Acts [.acm, .bmn, .brc, .ldm, .seq, .ulc] s (recomputeShelf s) := by
  unfold recomputeShelf
  try dsimp only
  repeat' (first
    | with_reducible exact .refl _ _
    | with_reducible apply (bridgeAcReport_acts ..).next rfl
    | with_reducible apply (batteryAcReport_acts ..).next rfl
    | with_reducible apply (mapAcm_acts ..).next rfl
    | with_reducible apply (post_acts ..).next rfl
    | split)

theorem mapPhase_acts (p : Fin 3) (f : PhaseRecord → PhaseRecord) (s : State) : Acts [.acm] s (mapPhase p f s) := by
  unfold mapPhase
  try dsimp only
  repeat' (first
    | with_reducible exact .refl _ _
    | with_reducible apply (mapAcm_acts ..).next rfl)

theorem putPhase_acts (p : Fin 3) (r : PhaseRecord) (s : State) :
    Acts [.acm, .rsv, .bmn, .brc, .ldm, .seq, .ulc] s (putPhase p r s) := by
  unfold putPhase
  try dsimp only
  repeat' (first
    | with_reducible exact .refl _ _
    | with_reducible apply (recomputeShelf_acts ..).next rfl
    | with_reducible apply (phaseReported_acts ..).next rfl
    | with_reducible apply (mapPhase_acts ..).next rfl
    | with_reducible apply (post_acts ..).next rfl
    | split)

theorem lossLimitExpiry_acts (p : Fin 3) (s : State) :
    Acts [.acm, .rsv, .bmn, .brc, .ldm, .seq, .ulc] s (lossLimitExpiry p s) := by
  unfold lossLimitExpiry
  try dsimp only
  repeat' (first
    | with_reducible exact .refl _ _
    | with_reducible apply (putPhase_acts ..).next rfl)

theorem zeroCrossing_acts (p : Fin 3) (counter : Nat) (s : State) :
    Acts [.acm, .rsv, .bmn, .brc, .ldm, .seq, .ulc] s (zeroCrossing p counter s) := by
  unfold zeroCrossing
  try dsimp only
  repeat' (first
    | with_reducible exact .refl _ _
    | with_reducible apply (lossLimitExpiry_acts ..).next rfl
    | with_reducible apply (putPhase_acts ..).next rfl
    | with_reducible apply (mapPhase_acts ..).next rfl
    | split)

theorem runCounters_acts (s : State) : Acts [.acm] s (runCounters s) := by
  unfold runCounters
  try dsimp only
  repeat' (first
    | with_reducible exact .refl _ _
    | with_reducible apply (mapAcm_acts ..).next rfl)

theorem applyLineFrequency_acts (s : State) : Acts [.acm, .rsv, .bmn, .brc, .ldm, .seq, .ulc] s (applyLineFrequency s) := by
  refine .forEach (fun p s => ?_) _ s
  split
  · exact lossLimitExpiry_acts p s
  · exact .refl _ _

theorem applyStableCount_acts (s : State) : Acts [.acm] s (applyStableCount s) := by
  unfold applyStableCount
  try dsimp only
  repeat' (first
    | with_reducible exact .refl _ _
    | with_reducible apply (Acts.forEach (bs := [.acm]) (fun _ _ => mapPhase_acts ..) _ _).next rfl)

/-! ## Sense -/

theorem formFigures_acts (s : State) : Acts [.sfe] s (formFigures s) := by
  unfold formFigures
  try dsimp only
  repeat' (first
    | with_reducible exact .refl _ _
    | with_reducible apply (mapSfe_acts ..).next rfl)

theorem postSaturation_acts (before : SatSet) (s : State) : Acts [] s (postSaturation before s) := by
  unfold postSaturation
  try dsimp only
  repeat' (first
    | with_reducible exact .refl _ _
    | with_reducible apply (post_acts ..).next rfl
    | split)

theorem rectifierWindow_acts (s : State) : Acts [.rsv, .ldm, .seq, .ulc] s (rectifierWindow s) := by
  unfold rectifierWindow
  try dsimp only
  repeat' (first
    | with_reducible exact .refl _ _
    | with_reducible apply (Acts.forEach (bs := [.rsv, .ldm, .seq, .ulc]) (fun _ _ => attemptIfDue_acts ..) _ _).next rfl)

theorem take_acts (b : WindowBlock) (s : State) : Acts [.sfe, .rsv, .bmn, .brc, .ldm, .seq, .ulc] s (Machine.WindowBlock.take b s) := by
  cases b
  · exact (bridgeWindow_acts s).up
  · exact (decayRamp_acts s).up
  · exact (sequencerWindow_acts s).up
  · exact (batteryWindow_acts s).up
  · exact (rectifierWindow_acts s).up

theorem completeWindow_acts (order : List WindowBlock) (s : State) :
    Acts [.sfe, .rsv, .bmn, .brc, .ldm, .seq, .ulc] s (completeWindow order s) := by
  unfold completeWindow
  split
  · have h : Acts [.sfe] s (formFigures s) := mapSfe_acts _ s
    exact (h.and (postSaturation_acts s.sfe.latest.saturated _)).trans (.forEach take_acts _ _)
  · exact .refl _ _

theorem tickZones_acts (s : State) : Acts [.ldm, .lkm] s (tickZones s) := by
  unfold tickZones
  try dsimp only
  repeat' (first
    | with_reducible exact .refl _ _
    | with_reducible apply (mapLdm_acts ..).next rfl
    | with_reducible apply (mapLkm_acts ..).next rfl)

theorem tick_acts (s : State) :
    Acts [.mgp, .acm, .rsv, .brc, .ldm, .seq, .lkm, .ulc] { s with partTime := s.partTime + 1 } (tick s) := by
  unfold tick
  dsimp only
  repeat' (first
    | with_reducible exact .refl _ _
    | with_reducible apply (runCounters_acts ..).next rfl
    | with_reducible apply (tickZones_acts ..).next rfl
    | with_reducible apply (mapUlc_acts ..).next rfl
    | with_reducible apply (mapMgp_acts ..).next rfl
    | with_reducible apply (mapRsv_acts ..).next rfl
    | with_reducible apply (mapSeq_acts ..).next rfl
    | with_reducible apply (mapBrc_acts ..).next rfl)

theorem takeDueEnds_acts (s : State) : Acts [.sfe, .rsv, .bmn, .brc, .ldm, .seq, .ulc] s (takeDueEnds s) := by
  unfold takeDueEnds
  try dsimp only
  repeat' (first
    | with_reducible exact .refl _ _
    | with_reducible apply (completeWindow_acts ..).next rfl
    | with_reducible apply (baselineEnd_acts ..).next rfl
    | with_reducible apply (measureEnd_acts ..).next rfl
    | with_reducible apply (placeOwedRelease_acts ..).next rfl
    | with_reducible apply (releaseSettleEnd_acts ..).next rfl
    | with_reducible apply (settleEnd_acts ..).next rfl)

theorem takeFrame_acts (f : SenseFrame) (s : State) : Acts [.sfe, .bmn] s (takeFrame f s) := by
  unfold takeFrame
  try dsimp only
  repeat' (first
    | with_reducible exact .refl _ _
    | with_reducible apply (Acts.forEach (bs := [.bmn]) (fun _ _ => countModule_acts ..) _ _).next rfl
    | with_reducible apply (Acts.forEach (bs := [.sfe]) (fun _ _ => mapSfe_acts ..) _ _).next rfl
    | with_reducible apply (Acts.forEach (bs := [.bmn]) (fun _ _ => testFrame_acts ..) _ _).next rfl
    | with_reducible apply (countModule_acts ..).next rfl
    | with_reducible apply (mapSfe_acts ..).next rfl
    | with_reducible apply (testFrame_acts ..).next rfl)

/-! ## Leak -/

theorem mapChannel_acts (c : Fin 8) (f : LeakChannel → LeakChannel) (s : State) : Acts [.lkm] s (mapChannel c f s) := by
  unfold mapChannel
  try dsimp only
  repeat' (first
    | with_reducible exact .refl _ _
    | with_reducible apply (mapLkm_acts ..).next rfl)

theorem judgeZone_acts (z : Fin 8) (s : State) : Acts [.ldm, .lkm] s (judgeZone z s) := by
  unfold judgeZone
  try dsimp only
  repeat' (first
    | with_reducible exact .refl _ _
    | with_reducible apply (mapLkm_acts ..).next rfl
    | with_reducible apply (mapZone_acts ..).next rfl
    | with_reducible apply (post_acts ..).next rfl
    | split)

theorem judgeZones_acts (s : State) : Acts [.ldm, .lkm] s (judgeZones s) := by
  unfold judgeZones
  try dsimp only
  repeat' (first
    | with_reducible exact .refl _ _
    | with_reducible apply (Acts.forEach (bs := [.ldm, .lkm]) (fun _ _ => judgeZone_acts ..) _ _).next rfl)

theorem setDelay_acts (z : Fin 8) (t : Timer) (s : State) : Acts [.ldm, .lkm] s (setDelay z t s) := by
  unfold setDelay
  try dsimp only
  repeat' (first
    | with_reducible exact .refl _ _
    | with_reducible apply (mapLkm_acts ..).next rfl
    | with_reducible apply (mapZone_acts ..).next rfl)

theorem requestIsolation_acts (z : Fin 8) (s : State) : Acts [.ldm, .seq, .lkm, .ulc] s (requestIsolation z s) := by
  unfold requestIsolation
  try dsimp only
  repeat' (first
    | with_reducible exact .refl _ _
    | with_reducible apply (isolateZone_acts ..).next rfl
    | with_reducible apply (setDelay_acts ..).next rfl)

theorem delayIsolation_acts (c z : Fin 8) (ms : Nat) (s : State) :
    Acts [.ldm, .seq, .lkm, .ulc] s (delayIsolation c z ms s) := by
  unfold delayIsolation
  try dsimp only
  repeat' (first
    | with_reducible exact .refl _ _
    | with_reducible apply (requestIsolation_acts ..).next rfl
    | with_reducible apply (setDelay_acts ..).next rfl
    | with_reducible apply (post_acts ..).next rfl
    | split)

theorem applyPolicyAt_acts (c z : Fin 8) (s : State) : Acts [.ldm, .seq, .lkm, .ulc] s (applyPolicyAt c z s) := by
  unfold applyPolicyAt
  try dsimp only
  repeat' (first
    | with_reducible exact .refl _ _
    | with_reducible apply (delayIsolation_acts ..).next rfl
    | with_reducible apply (requestIsolation_acts ..).next rfl
    | split)

theorem applyPolicy_acts (c : Fin 8) (zones : List (Fin 8)) (s : State) :
    Acts [.ldm, .seq, .lkm, .ulc] s (applyPolicy c zones s) := by
  unfold applyPolicy
  try dsimp only
  repeat' (first
    | with_reducible exact .refl _ _
    | with_reducible apply (Acts.forEach (bs := [.ldm, .seq, .lkm, .ulc]) (fun _ _ => applyPolicyAt_acts ..) _ _).next rfl)

theorem checkDelay_acts (z : Fin 8) (s : State) : Acts [.ldm, .lkm] s (checkDelay z s) := by
  unfold checkDelay
  try dsimp only
  repeat' (first
    | with_reducible exact .refl _ _
    | with_reducible apply (setDelay_acts ..).next rfl
    | with_reducible apply (post_acts ..).next rfl
    | split)

theorem isolationDelayExpiry_acts (z : Fin 8) (s : State) : Acts [.ldm, .seq, .lkm, .ulc] s (isolationDelayExpiry z s) := by
  unfold isolationDelayExpiry
  try dsimp only
  repeat' (first
    | with_reducible exact .refl _ _
    | with_reducible apply (requestIsolation_acts ..).next rfl
    | split)

theorem postLeak_acts (c : Fin 8) (old : LeakState) (cause : LeakCause) (s : State) : Acts [] s (postLeak c old cause s) := by
  unfold postLeak
  try dsimp only
  repeat' (first
    | with_reducible exact .refl _ _
    | with_reducible apply (post_acts ..).next rfl)

theorem putChannel_acts (c : Fin 8) (cause : LeakCause) (r : LeakChannel) (s : State) :
    Acts [.ldm, .seq, .lkm, .ulc] s (putChannel c cause r s) := by
  unfold putChannel
  try dsimp only
  repeat' (first
    | with_reducible exact .refl _ _
    | with_reducible apply (Acts.forEach (bs := [.ldm, .seq, .lkm, .ulc]) (fun _ _ => applyPolicy_acts ..) _ _).next rfl
    | with_reducible apply (Acts.forEach (bs := [.ldm, .lkm]) (fun _ _ => checkDelay_acts ..) _ _).next rfl
    | with_reducible apply (Acts.forEach (bs := [.ldm, .lkm]) (fun _ _ => judgeZones_acts ..) _ _).next rfl
    | with_reducible apply (Acts.forEach (bs := [.lkm]) (fun _ _ => mapChannel_acts ..) _ _).next rfl
    | with_reducible apply (Acts.forEach (bs := []) (fun _ _ => postLeak_acts ..) _ _).next rfl
    | with_reducible apply (applyPolicy_acts ..).next rfl
    | with_reducible apply (checkDelay_acts ..).next rfl
    | with_reducible apply (judgeZones_acts ..).next rfl
    | with_reducible apply (mapChannel_acts ..).next rfl
    | with_reducible apply (postLeak_acts ..).next rfl
    | split)

theorem sampleChannel_acts (readings : Vector LeakReading 8) (c : Fin 8) (s : State) :
    Acts [.ldm, .seq, .lkm, .ulc] s (sampleChannel readings c s) := by
  unfold sampleChannel
  try dsimp only
  repeat' (first
    | with_reducible exact .refl _ _
    | with_reducible apply (putChannel_acts ..).next rfl
    | split)

theorem leakSample_acts (readings : Vector LeakReading 8) (s : State) :
    Acts [.ldm, .seq, .lkm, .ulc] s (leakSample readings s) := by
  unfold leakSample
  try dsimp only
  repeat' (first
    | with_reducible exact .refl _ _
    | with_reducible apply (Acts.forEach (bs := [.ldm, .seq, .lkm, .ulc]) (fun _ _ => sampleChannel_acts ..) _ _).next rfl)

theorem putLeakCfg_acts (c : Fin 8) (l : LeakSettings) (s : State) : Acts [.lvs] s (putLeakCfg c l s) := by
  unfold putLeakCfg
  try dsimp only
  repeat' (first
    | with_reducible exact .refl _ _
    | with_reducible apply (mapLvs_acts ..).next rfl)

theorem applyLeak_acts (c : Fin 8) (new : LeakSettings) (s : State) :
    Acts [.lvs, .ldm, .seq, .lkm, .ulc] s (applyLeak c new s) := by
  unfold applyLeak
  try dsimp only
  repeat' (first
    | with_reducible exact .refl _ _
    | with_reducible apply (Acts.forEach (bs := [.ldm, .seq, .lkm, .ulc]) (fun _ _ => applyPolicy_acts ..) _ _).next rfl
    | with_reducible apply (Acts.forEach (bs := [.ldm, .lkm]) (fun _ _ => checkDelay_acts ..) _ _).next rfl
    | with_reducible apply (Acts.forEach (bs := [.ldm, .lkm]) (fun _ _ => judgeZones_acts ..) _ _).next rfl
    | with_reducible apply (Acts.forEach (bs := [.lkm]) (fun _ _ => mapChannel_acts ..) _ _).next rfl
    | with_reducible apply (Acts.forEach (bs := [.lvs]) (fun _ _ => putLeakCfg_acts ..) _ _).next rfl
    | with_reducible apply (Acts.forEach (bs := []) (fun _ _ => postLeak_acts ..) _ _).next rfl
    | with_reducible apply (applyPolicy_acts ..).next rfl
    | with_reducible apply (checkDelay_acts ..).next rfl
    | with_reducible apply (judgeZones_acts ..).next rfl
    | with_reducible apply (mapChannel_acts ..).next rfl
    | with_reducible apply (putLeakCfg_acts ..).next rfl
    | with_reducible apply (postLeak_acts ..).next rfl
    | split)

end Sys2Proof.Laws
end

