-- ==== Sys2Proof/Laws/ActsLink.lean ====
section
/-! SUPPORT. Laws/ActsLink.lean: which blocks the operations of the Unit Link Controller, Level and Settings and the Management
Port can change, one lemma each, in the terms of `Acts`. -/
namespace Sys2Proof.Laws
set_option Elab.async false
open Sys2Proof.Machine Sys2Proof.Safety

/-! ## Poll -/

theorem settlePoll_acts (s : State) : Acts [.ulc] s (settlePoll s) := by
  unfold settlePoll
  try dsimp only
  repeat' (first
    | with_reducible exact .refl _ _
    | with_reducible apply (mapUlc_acts ..).next rfl)

theorem advancePoll_acts (s : State) : Acts [.ulc] s (advancePoll s) := by
  unfold advancePoll
  try dsimp only
  repeat' (first
    | with_reducible exact .refl _ _
    | with_reducible apply (mapUlc_acts ..).next rfl
    | with_reducible apply (settlePoll_acts ..).next rfl)

theorem pollCycleExpiry_acts (s : State) : Acts [.ulc] s (pollCycleExpiry s) := by
  unfold pollCycleExpiry
  try dsimp only
  repeat' (first
    | with_reducible exact .refl _ _
    | with_reducible apply (mapUlc_acts ..).next rfl
    | with_reducible apply (settlePoll_acts ..).next rfl
    | split)

theorem applyPollTable_acts (table : List PollEntry) (s : State) : Acts [.lvs, .ulc] s (applyPollTable table s) := by
  unfold applyPollTable
  try dsimp only
  repeat' (first
    | with_reducible exact .refl _ _
    | with_reducible apply (mapLvs_acts ..).next rfl
    | with_reducible apply (mapUlc_acts ..).next rfl
    | with_reducible apply (settlePoll_acts ..).next rfl)

theorem applyDefaultTable_acts (s : State) : Acts [.lvs, .ulc] s (applyDefaultTable s) := by
  unfold applyDefaultTable
  try dsimp only
  repeat' (first
    | with_reducible exact .refl _ _
    | with_reducible apply (applyPollTable_acts ..).next rfl
    | with_reducible apply (mapLvs_acts ..).next rfl
    | split)

theorem buildReply_acts (r : Request) (resp : Response) (s : State) : Acts [.mgp] s (buildReply r resp s) := by
  unfold buildReply
  try dsimp only
  repeat' (first
    | with_reducible exact .refl _ _
    | with_reducible apply (mapMgp_acts ..).next rfl)

theorem endPass_acts (resp : Response) (s : State) : Acts [.mgp, .ulc] s (endPass resp s) := by
  unfold endPass
  try dsimp only
  repeat' (first
    | with_reducible exact .refl _ _
    | with_reducible apply (buildReply_acts ..).next rfl
    | with_reducible apply (mapUlc_acts ..).next rfl
    | split)

theorem passThroughNotSent_acts (s : State) : Acts [.mgp, .ulc] s (passThroughNotSent s) := by
  unfold passThroughNotSent
  try dsimp only
  repeat' (first
    | with_reducible exact .refl _ _
    | with_reducible apply (endPass_acts ..).next rfl
    | split)

/-! ## Levels -/

theorem enterLevel_acts (l : Level) (s : State) : Acts [.lvs, .seq, .ulc] s (enterLevel l s) := by
  unfold enterLevel
  try dsimp only
  repeat' (first
    | with_reducible exact .refl _ _
    | with_reducible apply (applyDefaultTable_acts ..).next rfl
    | with_reducible apply (mapLvs_acts ..).next rfl
    | with_reducible apply (sequencerSupervised_acts ..).next rfl
    | split)

theorem enterLevelWarm_acts (l : Level) (s : State) : Acts [.lvs, .ulc] s (enterLevelWarm l s) := by
  unfold enterLevelWarm
  try dsimp only
  repeat' (first
    | with_reducible exact .refl _ _
    | with_reducible apply (applyDefaultTable_acts ..).next rfl
    | with_reducible apply (mapLvs_acts ..).next rfl
    | split)

theorem postStarted_acts (warm flag : Bool) (s : State) : Acts [] s (postStarted warm flag s) := by
  unfold postStarted
  try dsimp only
  repeat' (first
    | with_reducible exact .refl _ _
    | with_reducible apply (post_acts ..).next rfl)

theorem completeStartUp_acts (s : State) : Acts [.lvs, .seq, .ulc] s (completeStartUp s) := by
  unfold completeStartUp
  try dsimp only
  repeat' (first
    | with_reducible exact .refl _ _
    | with_reducible apply (enterLevel_acts ..).next rfl
    | with_reducible apply (mapLvs_acts ..).next rfl
    | with_reducible apply (postStarted_acts ..).next rfl)

theorem settingEffect_acts (k : SettingKey) (s : State) :
    Acts [.acm, .rsv, .bmn, .brc, .ldm, .seq, .ulc] s (settingEffect k s) := by
  unfold settingEffect
  try dsimp only
  repeat' (first
    | with_reducible exact .refl _ _
    | with_reducible apply (applyLineFrequency_acts ..).next rfl
    | with_reducible apply (feedJudged_acts ..).next rfl
    | with_reducible apply (applyCapacity_acts ..).next rfl
    | with_reducible apply (applyDefaultR_acts ..).next rfl
    | with_reducible apply (applyRetryLimit_acts ..).next rfl
    | with_reducible apply (applyStableCount_acts ..).next rfl
    | with_reducible apply (clampRamp_acts ..).next rfl
    | with_reducible apply (mapUlc_acts ..).next rfl
    | with_reducible apply (markAll_acts ..).next rfl
    | with_reducible apply (recomputeCapacity_acts ..).next rfl
    | split)

theorem applySetting_acts (k : SettingKey) (v : Nat) (s : State) :
    Acts [.lvs, .acm, .rsv, .bmn, .brc, .ldm, .seq, .ulc] s (applySetting k v s) := by
  unfold applySetting
  try dsimp only
  repeat' (first
    | with_reducible exact .refl _ _
    | with_reducible apply (settingEffect_acts ..).next rfl
    | with_reducible apply (mapLvs_acts ..).next rfl)

theorem markDirty_acts (s : State) : Acts [.lvs] s (markDirty s) := by
  unfold markDirty
  try dsimp only
  repeat' (first
    | with_reducible exact .refl _ _
    | with_reducible apply (mapLvs_acts ..).next rfl)

theorem reloadSetting_acts (image : Settings) (k : SettingKey) (s : State) :
    Acts [.lvs, .acm, .rsv, .bmn, .brc, .ldm, .seq, .ulc] s (reloadSetting image k s) := by
  unfold reloadSetting
  try dsimp only
  repeat' (first
    | with_reducible exact .refl _ _
    | with_reducible apply (applySetting_acts ..).next rfl
    | split)

theorem reloadSlot_acts (b : Bool) (image : Settings) (n : Fin 48) (s : State) :
    Acts [.lvs, .ldm, .seq, .ulc] s (reloadSlot b image n s) := by
  unfold reloadSlot
  try dsimp only
  repeat' (first
    | with_reducible exact .refl _ _
    | with_reducible apply (applySlot_acts ..).next rfl
    | split)

theorem reloadLeak_acts (image : Settings) (c : Fin 8) (s : State) :
    Acts [.lvs, .ldm, .seq, .lkm, .ulc] s (reloadLeak image c s) := by
  unfold reloadLeak
  try dsimp only
  repeat' (first
    | with_reducible exact .refl _ _
    | with_reducible apply (applyLeak_acts ..).next rfl
    | split)

theorem reloadTable_acts (image : Settings) (s : State) : Acts [.lvs, .ulc] s (reloadTable image s) := by
  unfold reloadTable
  try dsimp only
  repeat' (first
    | with_reducible exact .refl _ _
    | with_reducible apply (applyPollTable_acts ..).next rfl
    | split)

theorem reload_acts (b : Bool) (image : Settings) (s : State) :
    Acts [.lvs, .acm, .rsv, .bmn, .brc, .ldm, .seq, .lkm, .ulc] s (reload b image s) := by
  unfold reload
  try dsimp only
  repeat' (first
    | with_reducible exact .refl _ _
    | with_reducible apply (Acts.forEach (bs := [.lvs, .acm, .rsv, .bmn, .brc, .ldm, .seq, .ulc]) (fun _ _ => reloadSetting_acts ..) _ _).next rfl
    | with_reducible apply (Acts.forEach (bs := [.lvs, .ldm, .seq, .lkm, .ulc]) (fun _ _ => reloadLeak_acts ..) _ _).next rfl
    | with_reducible apply (Acts.forEach (bs := [.lvs, .ldm, .seq, .ulc]) (fun _ _ => reloadSlot_acts ..) _ _).next rfl
    | with_reducible apply (Acts.forEach (bs := [.lvs, .ulc]) (fun _ _ => reloadTable_acts ..) _ _).next rfl
    | with_reducible apply (Acts.forEach (bs := [.lvs]) (fun _ _ => mapLvs_acts ..) _ _).next rfl
    | with_reducible apply (reloadSetting_acts ..).next rfl
    | with_reducible apply (reloadLeak_acts ..).next rfl
    | with_reducible apply (reloadSlot_acts ..).next rfl
    | with_reducible apply (reloadTable_acts ..).next rfl
    | with_reducible apply (mapLvs_acts ..).next rfl)

theorem beginCommit_acts (s : State) : Acts [.lvs] s (beginCommit s) := by
  unfold beginCommit
  try dsimp only
  repeat' (first
    | with_reducible exact .refl _ _
    | with_reducible apply (mapLvs_acts ..).next rfl)

theorem commitCompletion_acts (imageMatches : Bool) (s : State) : Acts [.lvs] s (commitCompletion imageMatches s) := by
  unfold commitCompletion
  try dsimp only
  repeat' (first
    | with_reducible exact .refl _ _
    | with_reducible apply (mapLvs_acts ..).next rfl
    | with_reducible apply (post_acts ..).next rfl
    | split)

theorem withdrawnAtRestart_acts (rec : CommandRecord) (s : State) : Acts [.rsv, .ldm, .seq] s (withdrawnAtRestart rec s) := by
  unfold withdrawnAtRestart
  try dsimp only
  repeat' (first
    | with_reducible exact .refl _ _
    | with_reducible apply (recordWithdrawn_acts ..).next rfl
    | with_reducible apply (unenergize_acts ..).next rfl
    | with_reducible apply (mapRect_acts ..).next rfl
    | split)

theorem clearQ1_acts (s : State) : Acts [.rsv, .ldm, .seq, .ulc] s (clearQ1 s) := by
  unfold clearQ1
  try dsimp only
  repeat' (first
    | with_reducible exact .refl _ _
    | with_reducible apply (Acts.forEach (bs := [.rsv, .ldm, .seq]) (fun _ _ => withdrawnAtRestart_acts ..) _ _).next rfl
    | with_reducible apply (Acts.forEach (bs := [.ulc]) (fun _ _ => mapUlc_acts ..) _ _).next rfl
    | with_reducible apply (withdrawnAtRestart_acts ..).next rfl
    | with_reducible apply (mapUlc_acts ..).next rfl)

theorem restartRounds_acts (s : State) : Acts [.ulc] s (restartRounds s) := by
  unfold restartRounds
  try dsimp only
  repeat' (first
    | with_reducible exact .refl _ _
    | with_reducible apply (mapUlc_acts ..).next rfl)

theorem startSilence_acts (s : State) : Acts [.mgp] s (startSilence s) := by
  unfold startSilence
  try dsimp only
  repeat' (first
    | with_reducible exact .refl _ _
    | with_reducible apply (mapMgp_acts ..).next rfl)

theorem restartReload_acts (s : State) : Acts [.lvs, .acm, .rsv, .bmn, .brc, .ldm, .seq, .lkm, .ulc] s (restartReload s) := by
  unfold restartReload
  try dsimp only
  repeat' (first
    | with_reducible exact .refl _ _
    | with_reducible apply (reload_acts ..).next rfl
    | split)

/-! ## UnitLink -/

theorem completeCommand_acts (rec : CommandRecord) (o : CallOutcome) (s : State) :
    Acts [.rsv, .bmn, .ldm, .seq, .ulc] s (completeCommand rec o s) := by
  unfold completeCommand
  try dsimp only
  repeat' (first
    | with_reducible exact .refl _ _
    | with_reducible apply (testLoadOutcome_acts ..).next rfl
    | with_reducible apply (powerOffOutcome_acts ..).next rfl
    | with_reducible apply (powerOnOutcome_acts ..).next rfl
    | with_reducible apply (moduleOutcome_acts ..).next rfl
    | split)

theorem failQuiet_acts (rec : CommandRecord) (s : State) : Acts [.rsv, .bmn, .ldm, .seq, .ulc] s (failQuiet rec s) := by
  unfold failQuiet
  try dsimp only
  repeat' (first
    | with_reducible exact .refl _ _
    | with_reducible apply (completeCommand_acts ..).next rfl
    | with_reducible apply (giveBackInrush_acts ..).next rfl
    | split)

theorem pushHead_acts (rec : CommandRecord) (s : State) : Acts [.ulc] s (pushHead rec s) := by
  unfold pushHead
  try dsimp only
  repeat' (first
    | with_reducible exact .refl _ _
    | with_reducible apply (mapUlc_acts ..).next rfl)

theorem returnRecord_acts (rec : CommandRecord) (s : State) : Acts [.rsv, .bmn, .ldm, .seq, .ulc] s (returnRecord rec s) := by
  unfold returnRecord
  try dsimp only
  repeat' (first
    | with_reducible exact .refl _ _
    | with_reducible apply (completeCommand_acts ..).next rfl
    | with_reducible apply (pushHead_acts ..).next rfl
    | split)

theorem mapUnit_acts (x : UnitId) (f : UnitRecord → UnitRecord) (s : State) : Acts [.ulc] s (mapUnit x f s) := by
  unfold mapUnit
  try dsimp only
  repeat' (first
    | with_reducible exact .refl _ _
    | with_reducible apply (mapUlc_acts ..).next rfl)

theorem postPresence_acts (x : UnitId) (old : Presence) (s : State) : Acts [] s (postPresence x old s) := by
  unfold postPresence
  try dsimp only
  repeat' (first
    | with_reducible exact .refl _ _
    | with_reducible apply (post_acts ..).next rfl)

theorem reportMissing_acts (x : UnitId) (s : State) : Acts [.rsv, .bmn, .ldm, .seq, .ulc] s (reportMissing x s) := by
  unfold reportMissing
  try dsimp only
  repeat' (first
    | with_reducible exact .refl _ _
    | with_reducible apply (batteryMissing_acts ..).next rfl
    | with_reducible apply (rectifierMissing_acts ..).next rfl
    | with_reducible apply (slotMissing_acts ..).next rfl
    | split)

theorem reportStatus_acts (first : Bool) (x : UnitId) (payload : List Byte) (s : State) :
    Acts [.rsv, .bmn, .ldm, .seq, .ulc] s (reportStatus first x payload s) := by
  unfold reportStatus
  try dsimp only
  repeat' (first
    | with_reducible exact .refl _ _
    | with_reducible apply (batteryAnswer_acts ..).next rfl
    | with_reducible apply (rectifierAnswer_acts ..).next rfl
    | with_reducible apply (slotAnswer_acts ..).next rfl
    | with_reducible apply (batterySeed_acts ..).next rfl
    | split)

theorem statusGood_acts (x : UnitId) (payload : List Byte) (s : State) :
    Acts [.rsv, .bmn, .ldm, .seq, .ulc] s (statusGood x payload s) := by
  unfold statusGood
  try dsimp only
  repeat' (first
    | with_reducible exact .refl _ _
    | with_reducible apply (reportStatus_acts ..).next rfl
    | with_reducible apply (mapUnit_acts ..).next rfl
    | with_reducible apply (postPresence_acts ..).next rfl
    | split)

theorem statusMissed_acts (x : UnitId) (s : State) : Acts [.rsv, .bmn, .ldm, .seq, .ulc] s (statusMissed x s) := by
  unfold statusMissed
  try dsimp only
  repeat' (first
    | with_reducible exact .refl _ _
    | with_reducible apply (reportMissing_acts ..).next rfl
    | with_reducible apply (mapUnit_acts ..).next rfl
    | with_reducible apply (postPresence_acts ..).next rfl
    | split)

theorem failCallsFor_acts (x : UnitId) (s : State) : Acts [.rsv, .bmn, .ldm, .seq, .ulc] s (failCallsFor x s) := by
  unfold failCallsFor
  try dsimp only
  repeat' (first
    | with_reducible exact .refl _ _
    | with_reducible apply (Acts.forEach (bs := [.rsv, .bmn, .ldm, .seq, .ulc]) (fun _ _ => failQuiet_acts ..) _ _).next rfl
    | with_reducible apply (Acts.forEach (bs := [.ulc]) (fun _ _ => mapUlc_acts ..) _ _).next rfl
    | with_reducible apply (failQuiet_acts ..).next rfl
    | with_reducible apply (mapUlc_acts ..).next rfl)

theorem becomeQuiet_acts (x : UnitId) (s : State) : Acts [.ulc] s (becomeQuiet x s) := by
  unfold becomeQuiet
  try dsimp only
  repeat' (first
    | with_reducible exact .refl _ _
    | with_reducible apply (postPresence_acts ..).next rfl
    | with_reducible apply (mapUnit_acts ..).next rfl
    | split)

theorem markQuiet_acts (x : UnitId) (cause : JabberCause) (s : State) :
    Acts [.rsv, .bmn, .ldm, .seq, .ulc] s (markQuiet x cause s) := by
  unfold markQuiet
  try dsimp only
  repeat' (first
    | with_reducible exact .refl _ _
    | with_reducible apply (failCallsFor_acts ..).next rfl
    | with_reducible apply (becomeQuiet_acts ..).next rfl
    | with_reducible apply (post_acts ..).next rfl)

theorem unquiet_acts (x : UnitId) (s : State) : Acts [.ulc] s (unquiet x s) := by
  unfold unquiet
  try dsimp only
  repeat' (first
    | with_reducible exact .refl _ _
    | with_reducible apply (mapUnit_acts ..).next rfl
    | with_reducible apply (postPresence_acts ..).next rfl)

theorem markJabber_acts (x : Option UnitId) (jabber : Option JabberCause) (s : State) :
    Acts [.rsv, .bmn, .ldm, .seq, .ulc] s (markJabber x jabber s) := by
  unfold markJabber
  try dsimp only
  repeat' (first
    | with_reducible exact .refl _ _
    | with_reducible apply (markQuiet_acts ..).next rfl
    | split)

theorem endDiscovery_acts (s : State) : Acts [.lvs, .seq, .ulc] s (endDiscovery s) := by
  unfold endDiscovery
  try dsimp only
  repeat' (first
    | with_reducible exact .refl _ _
    | with_reducible apply (completeStartUp_acts ..).next rfl
    | with_reducible apply (mapUlc_acts ..).next rfl)

theorem discoverFrom_acts (place : Nat) (s : State) : Acts [.lvs, .seq, .ulc] s (discoverFrom place s) := by
  unfold discoverFrom
  try dsimp only
  repeat' (first
    | with_reducible exact .refl _ _
    | with_reducible apply (endDiscovery_acts ..).next rfl
    | with_reducible apply (mapUlc_acts ..).next rfl
    | split)

theorem advanceDiscovery_acts (s : State) : Acts [.lvs, .seq, .ulc] s (advanceDiscovery s) := by
  unfold advanceDiscovery
  try dsimp only
  repeat' (first
    | with_reducible exact .refl _ _
    | with_reducible apply (discoverFrom_acts ..).next rfl
    | split)

theorem statusOutcome_acts (x : UnitId) (j : Judgement) (jabber : Option JabberCause) (s : State) :
    Acts [.rsv, .bmn, .ldm, .seq, .ulc] s (statusOutcome x j jabber s) := by
  unfold statusOutcome
  try dsimp only
  repeat' (first
    | with_reducible exact .refl _ _
    | with_reducible apply (markJabber_acts ..).next rfl
    | with_reducible apply (statusGood_acts ..).next rfl
    | with_reducible apply (statusMissed_acts ..).next rfl
    | split)

theorem dropRange_acts (s : State) : Acts [.ulc] s (dropRange s) := by
  unfold dropRange
  try dsimp only
  repeat' (first
    | with_reducible exact .refl _ _
    | with_reducible apply (mapUlc_acts ..).next rfl
    | with_reducible apply (settlePoll_acts ..).next rfl)

theorem eventCallOutcome_acts (r : AddrRange) (j : Judgement) (jabber : Option JabberCause) (s : State) :
    Acts [.rsv, .bmn, .ldm, .seq, .ulc] s (eventCallOutcome r j jabber s) := by
  unfold eventCallOutcome
  try dsimp only
  repeat' (first
    | with_reducible exact .refl _ _
    | with_reducible apply (markJabber_acts ..).next rfl
    | with_reducible apply (dropRange_acts ..).next rfl
    | with_reducible apply (mapUlc_acts ..).next rfl
    | with_reducible apply (post_acts ..).next rfl
    | split)

theorem eventReadOutcome_acts (x : UnitId) (j : Judgement) (jabber : Option JabberCause) (s : State) :
    Acts [.rsv, .bmn, .ldm, .seq, .ulc] s (eventReadOutcome x j jabber s) := by
  unfold eventReadOutcome
  try dsimp only
  repeat' (first
    | with_reducible exact .refl _ _
    | with_reducible apply (markJabber_acts ..).next rfl
    | with_reducible apply (mapUnit_acts ..).next rfl
    | with_reducible apply (post_acts ..).next rfl
    | split)

theorem commandUnanswered_acts (rec : CommandRecord) (s : State) :
    Acts [.rsv, .bmn, .ldm, .seq, .ulc] s (commandUnanswered rec s) := by
  unfold commandUnanswered
  try dsimp only
  repeat' (first
    | with_reducible exact .refl _ _
    | with_reducible apply (completeCommand_acts ..).next rfl
    | with_reducible apply (returnRecord_acts ..).next rfl
    | split)

theorem commandOutcome_acts (rec : CommandRecord) (j : Judgement) (jabber : Option JabberCause) (s : State) :
    Acts [.rsv, .bmn, .ldm, .seq, .ulc] s (commandOutcome rec j jabber s) := by
  unfold commandOutcome
  try dsimp only
  repeat' (first
    | with_reducible exact .refl _ _
    | with_reducible apply (commandUnanswered_acts ..).next rfl
    | with_reducible apply (completeCommand_acts ..).next rfl
    | with_reducible apply (markQuiet_acts ..).next rfl
    | split)

theorem passOutcome_acts (address : Nat) (j : Judgement) (jabber : Option JabberCause) (s : State) :
    Acts [.mgp, .rsv, .bmn, .ldm, .seq, .ulc] s (passOutcome address j jabber s) := by
  unfold passOutcome
  try dsimp only
  repeat' (first
    | with_reducible exact .refl _ _
    | with_reducible apply (markJabber_acts ..).next rfl
    | with_reducible apply (endPass_acts ..).next rfl
    | split)

theorem transactionOutcome_acts (t : Transaction) (j : Judgement) (jabber : Option JabberCause) (s : State) :
    Acts [.mgp, .lvs, .rsv, .bmn, .ldm, .seq, .ulc] s (transactionOutcome t j jabber s) := by
  unfold transactionOutcome
  try dsimp only
  repeat' (first
    | with_reducible exact .refl _ _
    | with_reducible apply (passOutcome_acts ..).next rfl
    | with_reducible apply (commandOutcome_acts ..).next rfl
    | with_reducible apply (eventCallOutcome_acts ..).next rfl
    | with_reducible apply (eventReadOutcome_acts ..).next rfl
    | with_reducible apply (markJabber_acts ..).next rfl
    | with_reducible apply (statusOutcome_acts ..).next rfl
    | with_reducible apply (advanceDiscovery_acts ..).next rfl
    | with_reducible apply (advancePoll_acts ..).next rfl
    | with_reducible apply (dropRange_acts ..).next rfl
    | split)

theorem releaseLine_acts (s : State) : Acts [.ulc] s (releaseLine s) := by
  unfold releaseLine
  try dsimp only
  repeat' (first
    | with_reducible exact .refl _ _
    | with_reducible apply (mapUlc_acts ..).next rfl)

theorem endTransaction_acts (j : Judgement) (jabber : Option JabberCause) (s : State) :
    Acts [.mgp, .lvs, .rsv, .bmn, .ldm, .seq, .ulc] s (endTransaction j jabber s) := by
  unfold endTransaction
  try dsimp only
  repeat' (first
    | with_reducible exact .refl _ _
    | with_reducible apply (settlePoll_acts ..).next rfl
    | with_reducible apply (transactionOutcome_acts ..).next rfl
    | with_reducible apply (releaseLine_acts ..).next rfl
    | split)

theorem callEnd_acts (s : State) : Acts [.mgp, .ulc] s (callEnd s) := by
  unfold callEnd
  try dsimp only
  repeat' (first
    | with_reducible exact .refl _ _
    | with_reducible apply (endPass_acts ..).next rfl
    | with_reducible apply (mapUlc_acts ..).next rfl
    | with_reducible apply (releaseLine_acts ..).next rfl
    | split)

theorem responseTimeout_acts (s : State) : Acts [.mgp, .lvs, .rsv, .bmn, .ldm, .seq, .ulc] s (responseTimeout s) := by
  unfold responseTimeout
  try dsimp only
  repeat' (first
    | with_reducible exact .refl _ _
    | with_reducible apply (endTransaction_acts ..).next rfl
    | split)

theorem answerFirstCharacter_acts (s : State) : Acts [.ulc] s (answerFirstCharacter s) := by
  unfold answerFirstCharacter
  try dsimp only
  repeat' (first
    | with_reducible exact .refl _ _
    | with_reducible apply (mapUlc_acts ..).next rfl
    | split)

theorem answerComplete_acts (chars : List LineChar) (s : State) :
    Acts [.mgp, .lvs, .rsv, .bmn, .ldm, .seq, .ulc] s (answerComplete chars s) := by
  unfold answerComplete
  try dsimp only
  repeat' (first
    | with_reducible exact .refl _ _
    | with_reducible apply (endTransaction_acts ..).next rfl
    | split)

theorem answerGapTimeout_acts (s : State) : Acts [.mgp, .lvs, .rsv, .bmn, .ldm, .seq, .ulc] s (answerGapTimeout s) := by
  unfold answerGapTimeout
  try dsimp only
  repeat' (first
    | with_reducible exact .refl _ _
    | with_reducible apply (endTransaction_acts ..).next rfl
    | split)

theorem jabberInAnswer_acts (cause : JabberCause) (s : State) :
    Acts [.mgp, .lvs, .rsv, .bmn, .ldm, .seq, .ulc] s (jabberInAnswer cause s) := by
  unfold jabberInAnswer
  try dsimp only
  repeat' (first
    | with_reducible exact .refl _ _
    | with_reducible apply (endTransaction_acts ..).next rfl
    | split)

theorem linkJabber_acts (s : State) : Acts [.ulc] s (linkJabber s) := by
  unfold linkJabber
  try dsimp only
  repeat' (first
    | with_reducible exact .refl _ _
    | with_reducible apply (mapUlc_acts ..).next rfl
    | with_reducible apply (post_acts ..).next rfl
    | split)

theorem characterOutsideTransaction_acts (s : State) : Acts [.ulc] s (characterOutsideTransaction s) := by
  unfold characterOutsideTransaction
  try dsimp only
  repeat' (first
    | with_reducible exact .refl _ _
    | with_reducible apply (mapUlc_acts ..).next rfl
    | split)

theorem lineIdle_acts (s : State) : Acts [.ulc] s (lineIdle s) := by
  unfold lineIdle
  try dsimp only
  repeat' (first
    | with_reducible exact .refl _ _
    | with_reducible apply (mapUlc_acts ..).next rfl
    | split)

theorem purgeHeads_acts (s : State) : Acts [.rsv, .bmn, .ldm, .seq, .ulc] s (purgeHeads s) := by
  unfold purgeHeads
  try dsimp only
  repeat' (first
    | with_reducible exact .refl _ _
    | with_reducible apply (Acts.forEach (bs := [.rsv, .bmn, .ldm, .seq, .ulc]) (fun _ _ => failQuiet_acts ..) _ _).next rfl
    | with_reducible apply (Acts.forEach (bs := [.ulc]) (fun _ _ => mapUlc_acts ..) _ _).next rfl
    | with_reducible apply (failQuiet_acts ..).next rfl
    | with_reducible apply (mapUlc_acts ..).next rfl)

theorem beginTransaction_acts (t : Transaction) (s : State) : Acts [.ulc] s (beginTransaction t s) := by
  unfold beginTransaction
  try dsimp only
  repeat' (first
    | with_reducible exact .refl _ _
    | with_reducible apply (mapUlc_acts ..).next rfl)

theorem sendCommand_acts (rec : CommandRecord) (s : State) : Acts [.ldm, .seq, .ulc] s (sendCommand rec s) := by
  unfold sendCommand
  try dsimp only
  repeat' (first
    | with_reducible exact .refl _ _
    | with_reducible apply (mapSlot_acts ..).next rfl
    | with_reducible apply (beginTransaction_acts ..).next rfl
    | split)

theorem startPendingCycle_acts (s : State) : Acts [.ulc] s (startPendingCycle s) := by
  unfold startPendingCycle
  try dsimp only
  repeat' (first
    | with_reducible exact .refl _ _
    | with_reducible apply (mapUlc_acts ..).next rfl
    | with_reducible apply (settlePoll_acts ..).next rfl
    | split)

theorem grant_acts (src : Source) (s : State) : Acts [.ldm, .seq, .ulc] s (grant src s) := by
  unfold grant
  try dsimp only
  repeat' (first
    | with_reducible exact .refl _ _
    | with_reducible apply (sendCommand_acts ..).next rfl
    | with_reducible apply (beginTransaction_acts ..).next rfl
    | with_reducible apply (mapUlc_acts ..).next rfl
    | with_reducible apply (startPendingCycle_acts ..).next rfl
    | split)

theorem prepareGrant_acts (s : State) : Acts [.lvs, .rsv, .bmn, .ldm, .seq, .ulc] s (prepareGrant s) := by
  unfold prepareGrant
  try dsimp only
  repeat' (first
    | with_reducible exact .refl _ _
    | with_reducible apply (purgeHeads_acts ..).next rfl
    | with_reducible apply (discoverFrom_acts ..).next rfl
    | with_reducible apply (settlePoll_acts ..).next rfl
    | with_reducible apply (startPendingCycle_acts ..).next rfl
    | split)

theorem lineGrant_acts (s : State) : Acts [.lvs, .rsv, .bmn, .ldm, .seq, .ulc] s (lineGrant s) := by
  unfold lineGrant
  try dsimp only
  repeat' (first
    | with_reducible exact .refl _ _
    | with_reducible apply (prepareGrant_acts ..).next rfl
    | with_reducible apply (grant_acts ..).next rfl
    | split)

theorem cutTransaction_acts (s : State) : Acts [.rsv, .bmn, .ldm, .seq, .ulc] s (cutTransaction s) := by
  unfold cutTransaction
  try dsimp only
  repeat' (first
    | with_reducible exact .refl _ _
    | with_reducible apply (returnRecord_acts ..).next rfl
    | with_reducible apply (releaseLine_acts ..).next rfl
    | split)

theorem clearQuiet_acts (s : State) : Acts [.ulc] s (clearQuiet s) := by
  refine .forEach (fun x s => ?_) _ s
  split
  · exact unquiet_acts x s
  · exact .refl _ _

theorem linkReset_acts (s : State) : Acts [.rsv, .bmn, .ldm, .seq, .ulc] s (linkReset s) := by
  unfold linkReset
  try dsimp only
  repeat' (first
    | with_reducible exact .refl _ _
    | with_reducible apply (cutTransaction_acts ..).next rfl
    | with_reducible apply (clearQuiet_acts ..).next rfl
    | with_reducible apply (mapUlc_acts ..).next rfl
    | with_reducible apply (settlePoll_acts ..).next rfl)

/-! ## Requests -/

theorem disableRect_acts (k : Fin 6) (s : State) : Acts [.rsv, .ldm, .seq, .ulc] s (disableRect k s) := by
  unfold disableRect
  try dsimp only
  repeat' (first
    | with_reducible exact .refl _ _
    | with_reducible apply (placeModuleCall_acts ..).next rfl
    | with_reducible apply (mapRect_acts ..).next rfl
    | split)

/-! ## Port -/

theorem clearSilence_acts (s : State) : Acts [.mgp, .seq] s (clearSilence s) := by
  unfold clearSilence
  try dsimp only
  repeat' (first
    | with_reducible exact .refl _ _
    | with_reducible apply (mapMgp_acts ..).next rfl
    | with_reducible apply (sequencerSilenceCleared_acts ..).next rfl
    | split)

theorem hostSilent_acts (s : State) : Acts [.mgp, .seq] s (hostSilent s) := by
  unfold hostSilent
  try dsimp only
  repeat' (first
    | with_reducible exact .refl _ _
    | with_reducible apply (mapMgp_acts ..).next rfl
    | with_reducible apply (sequencerSilence_acts ..).next rfl
    | with_reducible apply (post_acts ..).next rfl
    | split)

theorem takeUnknown_acts (r : Request) (s : State) : Acts [.mgp] s (takeUnknown r s) := by
  unfold takeUnknown
  try dsimp only
  repeat' (first
    | with_reducible exact .refl _ _
    | with_reducible apply (buildReply_acts ..).next rfl)

theorem abandonFrame_acts (s : State) : Acts [.mgp] s (abandonFrame s) := by
  unfold abandonFrame
  try dsimp only
  repeat' (first
    | with_reducible exact .refl _ _
    | with_reducible apply (mapMgp_acts ..).next rfl)

theorem switchRate_acts (s : State) : Acts [.mgp] s (switchRate s) := by
  unfold switchRate
  try dsimp only
  repeat' (first
    | with_reducible exact .refl _ _
    | with_reducible apply (mapMgp_acts ..).next rfl
    | split)

/-- A frame that is no good one ends in the port alone; a good one is the request it carries. -/
theorem frameEnds_acts (e : AssemblyEnd) (s : State) (h : ∀ r, e ≠ .frame r) : Acts [.mgp] s (frameEnds e s) := by
  cases e with
  | framingError => exact .refl _ _
  | lengthAbandon => exact .refl _ _
  | crcDiscard =>
    unfold frameEnds
    exact mapMgp_acts ..
  | frame r => exact absurd rfl (h r)

theorem requestOverrun_acts (s : State) : Acts [.mgp] s (requestOverrun s) := by
  unfold requestOverrun
  try dsimp only
  repeat' (first
    | with_reducible exact .refl _ _
    | with_reducible apply (mapMgp_acts ..).next rfl
    | split)

end Sys2Proof.Laws
end

