-- ==== Sys2Proof/Laws/Ops.lean ====
section
/-! SUPPORT. Laws/Ops.lean: what the shared operations on slot records, zones and the Command Queues do, said once each, with the receive assembly. -/
namespace Sys2Proof.Laws
open Sys2Proof.Machine Sys2Proof.Safety

/-! ## Reading through `Acts` -/

/-- The settings outlive an act that does not change Level and Settings. -/
theorem Acts.lvs {bs : List Block} {s t : State} (h : Acts bs s t) (hb : bs.contains .lvs = false := by decide) :
    t.lvs = s.lvs := h.frame .lvs (by simpa using hb) (by decide)

/-- The Load Manager outlives an act that does not change it. -/
theorem Acts.ldm {bs : List Block} {s t : State} (h : Acts bs s t) (hb : bs.contains .ldm = false := by decide) :
    t.ldm = s.ldm := h.frame .ldm (by simpa using hb) (by decide)

/-- The Unit Link Controller outlives an act that does not change it. -/
theorem Acts.ulc {bs : List Block} {s t : State} (h : Acts bs s t) (hb : bs.contains .ulc = false := by decide) :
    t.ulc = s.ulc := h.frame .ulc (by simpa using hb) (by decide)

/-- The sequencer outlives an act that does not change it. -/
theorem Acts.seq {bs : List Block} {s t : State} (h : Acts bs s t) (hb : bs.contains .seq = false := by decide) :
    t.seq = s.seq := h.frame .seq (by simpa using hb) (by decide)

/-- The rectifier records outlive an act that does not change them. -/
theorem Acts.rsv {bs : List Block} {s t : State} (h : Acts bs s t) (hb : bs.contains .rsv = false := by decide) :
    t.rsv = s.rsv := h.frame .rsv (by simpa using hb) (by decide)

/-- The battery records outlive an act that does not change them. -/
theorem Acts.bmn {bs : List Block} {s t : State} (h : Acts bs s t) (hb : bs.contains .bmn = false := by decide) :
    t.bmn = s.bmn := h.frame .bmn (by simpa using hb) (by decide)

/-- The leak channels outlive an act that does not change them. -/
theorem Acts.lkm {bs : List Block} {s t : State} (h : Acts bs s t) (hb : bs.contains .lkm = false := by decide) :
    t.lkm = s.lkm := h.frame .lkm (by simpa using hb) (by decide)

/-- The Bridge Controller outlives an act that does not change it. -/
theorem Acts.brc {bs : List Block} {s t : State} (h : Acts bs s t) (hb : bs.contains .brc = false := by decide) :
    t.brc = s.brc := h.frame .brc (by simpa using hb) (by decide)

/-! ## Slot records (R10) -/

/-- What `putSlot` makes of the Load Manager: the record in its place and P_comm formed anew. -/
theorem putSlot_ldm (n : Fin 48) (r : Slot) (s : State) :
    (putSlot n r s).ldm = { s.ldm with
      slots := s.ldm.slots.set n r, pComm := committedLoad s.cfg (s.ldm.slots.set n r) } := by
  unfold putSlot
  dsimp only
  split
  · exact (reportDeparture_acts n _).ldm
  · rfl

/-- The record written reads back. -/
theorem putSlot_slot (n : Fin 48) (r : Slot) (s : State) : (putSlot n r s).slot n = r := by
  simp [State.slot, putSlot_ldm]

/-- Every other slot keeps its record. -/
theorem putSlot_slot_of_ne {m n : Fin 48} (r : Slot) (s : State) (h : m ≠ n) : (putSlot n r s).slot m = s.slot m := by
  have : (n : Nat) ≠ m := fun e => h (Fin.ext e.symm)
  simp [State.slot, putSlot_ldm, this]

theorem mapSlot_ldm (n : Fin 48) (f : Slot → Slot) (s : State) :
    (mapSlot n f s).ldm = { s.ldm with
      slots := s.ldm.slots.set n (f (s.slot n)), pComm := committedLoad s.cfg (s.ldm.slots.set n (f (s.slot n))) } :=
  putSlot_ldm n _ s

theorem mapSlot_slot (n : Fin 48) (f : Slot → Slot) (s : State) : (mapSlot n f s).slot n = f (s.slot n) :=
  putSlot_slot n _ s

theorem mapSlot_slot_of_ne {m n : Fin 48} (f : Slot → Slot) (s : State) (h : m ≠ n) : (mapSlot n f s).slot m = s.slot m :=
  putSlot_slot_of_ne _ s h

/-- A change of a slot's record keeps P_comm the committed load (R10). -/
theorem mapSlot_committedOk (n : Fin 48) (f : Slot → Slot) (s : State) : CommittedOk (mapSlot n f s) := by
  have h : (mapSlot n f s).cfg = s.cfg := congrArg Lvs.settings (mapSlot_acts n f s).lvs
  unfold CommittedOk
  rw [h, mapSlot_ldm]

/-! ## Charged inrush (R11) -/

/-- Giving back a charged inrush lowers RampLevel by it, floor 0, and takes it off the record; every other item of the Load
Manager keeps its value but P_comm, which is formed anew. -/
theorem giveBackInrush_some {n : Fin 48} {s : State} {w : Nat} (h : (s.slot n).chargedInrush = some w) :
    (giveBackInrush n s).ldm = { s.ldm with
      rampLevel := s.ldm.rampLevel - w
      slots := s.ldm.slots.set n { s.slot n with chargedInrush := none }
      pComm := committedLoad s.cfg (s.ldm.slots.set n { s.slot n with chargedInrush := none }) } := by
  simp only [giveBackInrush, h]
  exact mapSlot_ldm n _ _

/-- A slot without a charged inrush has nothing to give back. -/
theorem giveBackInrush_none {n : Fin 48} {s : State} (h : (s.slot n).chargedInrush = none) : giveBackInrush n s = s := by
  simp only [giveBackInrush, h]

/-! ## Command Queues (R169, R170) -/

/-- What is left of the queues once the picked records are withdrawn. -/
theorem withdrawQueued_ulc (pick : CommandRecord → Bool) (s : State) :
    (withdrawQueued pick s).ulc =
      { s.ulc with q0 := s.ulc.q0.filter fun r => !pick r, q1 := s.ulc.q1.filter fun r => !pick r } := by
  unfold withdrawQueued
  exact (Acts.forEach recordWithdrawn_acts _ _).ulc

/-- Withdrawing records that are no POWER ON calls changes the queues alone. -/
theorem withdrawQueued_of_no_powerOn {pick : CommandRecord → Bool} {s : State}
    (h : ∀ r ∈ s.ulc.q0 ++ s.ulc.q1, pick r = true → r.kind ≠ .powerOn) :
    withdrawQueued pick s = s.mapUlc fun u =>
      { u with q0 := u.q0.filter fun r => !pick r, q1 := u.q1.filter fun r => !pick r } := by
  unfold withdrawQueued
  dsimp only
  generalize (s.mapUlc fun u =>
      { u with q0 := u.q0.filter fun r => !pick r, q1 := u.q1.filter fun r => !pick r }) = u
  have key : ∀ (l : List CommandRecord) (u : State), (∀ r ∈ l, r.kind ≠ .powerOn) → u.forEach l recordWithdrawn = u := by
    intro l
    induction l with
    | nil => intro u _; rfl
    | cons r l ih =>
      intro u hl
      have e : recordWithdrawn r u = u := by
        have := hl r (List.mem_cons_self ..)
        unfold recordWithdrawn
        split
        · contradiction
        · rfl
      show (recordWithdrawn r u).forEach l recordWithdrawn = u
      rw [e]
      exact ih u fun r hr => hl r (List.mem_cons_of_mem _ hr)
  refine key _ u fun r hr => ?_
  rcases List.mem_append.1 hr with m | m
  · exact h r (List.mem_append_left _ (List.mem_filter.1 m).1) (List.mem_filter.1 m).2
  · exact h r (List.mem_append_right _ (List.mem_filter.1 m).1) (List.mem_filter.1 m).2

/-- A placed command stands at the tail of its queue. -/
theorem enqueue_ulc (c : CommandRecord) (s : State) : (enqueue c s).ulc =
    if c.kind.urgent then { s.ulc with q0 := s.ulc.q0 ++ [c] } else { s.ulc with q1 := s.ulc.q1 ++ [c] } := by
  unfold enqueue; rfl

/-- A POWER call that is placed is the only queued POWER call for its slot (R170). -/
theorem placePower_ulc (n : Fin 48) (kind : CommandKind) (s : State) : (placePower n kind s).ulc =
    let q0 := s.ulc.q0.filter fun r => !isPowerFor n r
    let q1 := s.ulc.q1.filter fun r => !isPowerFor n r
    if kind.urgent then { s.ulc with q0 := q0 ++ [newCommand (.slot n) kind none .ldm], q1 := q1 }
    else { s.ulc with q0 := q0, q1 := q1 ++ [newCommand (.slot n) kind none .ldm] } := by
  unfold placePower
  rw [enqueue_ulc, withdrawQueued_ulc]
  rfl

/-! ## Zones -/

/-- What `mapZone` makes of the Load Manager. -/
theorem mapZone_ldm (z : Fin 8) (f : Zone → Zone) (s : State) :
    (mapZone z f s).ldm = { s.ldm with zones := s.ldm.zones.set z (f (s.zone z)) } := rfl

theorem mapZone_zone (z : Fin 8) (f : Zone → Zone) (s : State) : (mapZone z f s).zone z = f (s.zone z) := by
  simp [State.zone, mapZone_ldm]

theorem mapZone_zone_of_ne {y z : Fin 8} (f : Zone → Zone) (s : State) (h : y ≠ z) : (mapZone z f s).zone y = s.zone y := by
  have : (z : Nat) ≠ y := fun e => h (Fin.ext e.symm)
  simp [State.zone, mapZone_ldm, this]

/-! ## The receive assembly (R178, R180) -/

/-- Characters are taken one after the other: a run in two parts leaves what the second leaves behind the first. -/
theorem assemble_append (held : List Byte) (xs ys : List PortChar) : assemble held (xs ++ ys) =
    ((assemble (assemble held xs).1 ys).1, (assemble held xs).2 ++ (assemble (assemble held xs).1 ys).2) := by
  induction xs generalizing held with
  | nil => rfl
  | cons c rest ih => simp [assemble, ih]

/-- A character that is dropped as a false start changes nothing. -/
theorem assemble_falseStart {c : PortChar} (held : List Byte) (rest : List PortChar) (h : portReceived c = .falseStart) :
    assemble held (c :: rest) = assemble held rest := by
  simp [assemble, assembleChar, h]

/-- Characters are heard one after the other: a run in two parts is the second part heard after the first. -/
theorem hearChars_append (xs ys : List PortChar) (s : State) : hearChars (xs ++ ys) s = hearChars ys (hearChars xs s) := by
  simp [hearChars, State.forEach, List.foldl_append]

/-- A run of characters that completes no good frame changes the receive assembly and the CRC-discard count of the port alone; one that
completes a good frame does what that request does, by `frameEnds`. -/
theorem hearChars_of_noFrame (chars : List PortChar) (s : State) (count : s.mgp.crcDiscards ≤ 65535)
    (none : ∀ r, AssemblyEnd.frame r ∉ (assemble s.mgp.assembly chars).2) :
    hearChars chars s = s.mapMgp fun m => { m with
      assembly := (assemble m.assembly chars).1
      crcDiscards := min 65535 (m.crcDiscards + (assemble m.assembly chars).2.count .crcDiscard) } := by
  induction chars generalizing s with
  | nil => simp [hearChars, assemble, State.mapMgp, Nat.min_eq_right count]
  | cons c rest ih =>
    rw [show hearChars (c :: rest) s = hearChars rest (hearChar c s) from rfl]
    rcases e : assembleChar s.mgp.assembly c with ⟨held, _ | (_ | _ | _ | r)⟩
    · rw [show hearChar c s = s.mapMgp fun m => { m with assembly := held } by simp [hearChar, e],
        ih (s.mapMgp fun m => { m with assembly := held }) count (by simpa [assemble, e] using none)]
      simp [State.mapMgp, assemble, e]
    all_goals simp only [hearChar, e, frameEnds]
    · rw [ih (s.mapMgp fun m => { m with assembly := held }) count (by simpa [assemble, e] using none)]
      simp [State.mapMgp, assemble, e]
    · rw [ih (s.mapMgp fun m => { m with assembly := held }) count (by simpa [assemble, e] using none)]
      simp [State.mapMgp, assemble, e]
    · rw [ih ((s.mapMgp fun m => { m with assembly := held }).mapMgp fun m =>
          { m with crcDiscards := min 65535 (m.crcDiscards + 1) })
        (by simp only [State.mapMgp]; omega) (by simpa [assemble, e] using none)]
      simp [State.mapMgp, assemble, e]
      omega
    · exact absurd (by simp [assemble, e]) (none r)

end Sys2Proof.Laws
end

