-- ==== Sys2Proof/Tests/Slice0.lean ====
section
/-! SUPPORT. Tests/Slice0.lean: checks of the model against the worked examples of the spec, the refusals of the well-formedness checks,
and, for each statement with hypotheses, a state and operands that meet them (`witness_<statement>`). -/
namespace Sys2Proof.Tests
set_option Elab.async false
open Sys2Proof.Machine Sys2Proof.Safety

/-! ## Helpers -/

/-- A test of the state a command answers. -/
def after (c : Instr) (s : State) (p : State → Bool) : Bool :=
  match exec c s with
  | .next t => p t
  | _ => false

/-- A frame with the given readings at module 0 and nothing elsewhere. -/
def frame0 (vbus iload ibm : Int) : RawFrame :=
  ⟨vbus, iload, Vector.replicate 4 0, #v[ibm, 0, 0, 0], Vector.replicate 4 0⟩

/-- A part at SUPERVISE with discovery ended, its line IDLE. -/
def live : State :=
  { State.reset with
    lvs := { State.reset.lvs with level := .supervise, startingUp := false, settings.coverageRequired := false }
    ulc := { State.reset.ulc with line := .idle, discovery := none } }

/-- Slot `n` in a state, with a settings part, in a shelf of 11,250 W. -/
def withSlot (n : Fin 48) (st : SlotState) (c : SlotSettings) (s : State) : State :=
  { s with
    lvs := { s.lvs with settings.slots := s.cfg.slots.set n c }
    ldm := { s.ldm with slots := s.ldm.slots.set n { s.slot n with state := st } }
    rsv := { s.rsv with pAvail := 11250 } }

/-- A unit with a presence. -/
def withUnit (x : UnitId) (p : Presence) (prior : Option Presence) (misses : Nat) (s : State) : State :=
  { s with ulc := { s.ulc with units := s.ulc.units.put x ⟨p, prior, misses, none⟩ } }

/-- Rectifier `k` with a record. -/
def withRect (k : Fin 6) (f : Rectifier → Rectifier) (s : State) : State :=
  { s with rsv := { s.rsv with rects := s.rsv.rects.set k (f (s.rect k)) } }

/-- Battery module `i` with a record. -/
def withBatt (i : Fin 4) (f : Battery → Battery) (s : State) : State :=
  { s with bmn := { s.bmn with batts := s.bmn.batts.set i (f (s.batt i)) } }

/-- An evaluation window of a hundred frames with a power sum. -/
def withWindow (powerSum : Nat) (s : State) : State :=
  { s with sfe := { s.sfe with window := { s.sfe.window with count := 100, powerSum := powerSum } } }

/-- The line in a state with a transaction. -/
def withLine (l : LineState) (t : Transaction) (s : State) : State :=
  { s with ulc := { s.ulc with line := l, transaction := some t } }

/-- A received character, each bit alike in its three samples. -/
def char (b : Byte) : LineChar :=
  let bit := fun x : Bool => (⟨x, x, x⟩ : BitSamples)
  ⟨bit false, Vector.ofFn fun i : Fin 8 => bit (b.getLsbD i), bit false, bit true⟩

/-- The characters of an answer, its CRC-8 formed by the model's own function. -/
def answer (address kind : Byte) (payload : List Byte) : List LineChar :=
  let bytes := [address, kind, BitVec.ofNat 8 payload.length] ++ payload
  (bytes ++ [crc8 bytes]).map char

/-- A received character of the Management Port, each bit alike in its three samples. -/
def portChar (stop : Bool) (b : Byte) : PortChar :=
  let bit := fun x : Bool => (⟨x, x, x⟩ : BitSamples)
  ⟨bit false, Vector.ofFn fun i : Fin 8 => bit (b.getLsbD i), bit stop⟩

/-- The characters of a request frame. -/
def sent (r : Request) : List PortChar := (requestFrame r).map (portChar true)

/-- The sequencer in a state, running a plan of one step over slot 7. -/
def withPlan (st : SeqState) (s : State) : State :=
  { s with seq := { s.seq with
      state := st, active := some ⟨1, [⟨[7], 100, .ready, 5000, .skip⟩]⟩, stepBegun := true } }

/-- The settings part of the slots of the worked example of two admissions (chapter 1). -/
def example1 : SlotSettings := ⟨1000, 1200, 0, 0, 0⟩

/-- Slot 7 OFF with its unit PRESENT and RampLevel at 4,800 W: the start of the worked example of two admissions. -/
def admissible : State :=
  let s := withUnit (.slot 7) .present none 0 (withSlot 7 .off example1 live)
  { s with ldm := { s.ldm with rampLevel := 4800 } }

/-! ## Well-formed terms -/

theorem test_wellFormed_accepts :
    (Instr.zeroCrossing 2 65535).wellFormed ∧ (Instr.evaluationWindowCompletion [.rsv, .bmn, .seq, .ldm, .brc]).wellFormed ∧
    (Instr.answerComplete (List.replicate 40 (char 0))).wellFormed ∧ (Instr.passThrough 0 (List.replicate 240 0)).wellFormed ∧
    (Instr.unknownKind 0x27 0 []).wellFormed ∧ (Instr.slotPowerOn 0 [47, 1]).wellFormed ∧
    (Instr.slotPowerOff 0 [47, 0]).wellFormed ∧
    (Instr.requestLengthAbandon ([0xA5, 241].map (portChar true))).wellFormed ∧
    (Instr.requestFramingError [portChar false 0xA5]).wellFormed ∧
    (Instr.requestCrcDiscard ([0xA5, 0, 2, 9, 0, 0].map (portChar true))).wellFormed ∧
    (Instr.requestGapAbandon []).wellFormed ∧ (Instr.requestCrcDiscard [portChar true 0]).wellFormed := by decide +kernel

theorem test_wellFormed_refuses_window_order :
    (Instr.evaluationWindowCompletion [.brc, .ldm, .seq, .bmn]).wellFormed = false ∧
    (Instr.evaluationWindowCompletion [.brc, .ldm, .seq, .bmn, .bmn]).wellFormed = false := by decide

theorem test_wellFormed_refuses_counter :
    (Instr.zeroCrossing 0 0).wellFormed = false ∧ (Instr.zeroCrossing 0 65536).wellFormed = false := by decide

theorem test_wellFormed_refuses_long_answer : (Instr.answerComplete (List.replicate 41 (char 0))).wellFormed = false := by
  decide +kernel

theorem test_wellFormed_refuses_other_ends : (Instr.requestCrcDiscard []).wellFormed = false ∧
    (Instr.requestCrcDiscard [portChar true 0xA5, portChar true 0, portChar false 2]).wellFormed = false ∧
    (Instr.requestFramingError [portChar true 0xA5]).wellFormed = false := by decide +kernel

theorem test_wellFormed_refuses_known_kind :
    (Instr.unknownKind 1 0 []).wellFormed = false ∧ (Instr.unknownKind 0x26 0 []).wellFormed = false := by decide

theorem test_wellFormed_refuses_long_payload : (Instr.identify 0 (List.replicate 241 0)).wellFormed = false := by decide +kernel

theorem test_wellFormed_refuses_other_power :
    (Instr.slotPowerOn 0 [7, 0]).wellFormed = false ∧ (Instr.slotPowerOff 0 [7, 1]).wellFormed = false := by decide

theorem test_wellFormed_refuses_short_length : (Instr.requestLengthAbandon ([0xA5, 240].map (portChar true))).wellFormed = false := by
  decide +kernel

/-! ## Worked examples of the spec -/

/-- Chapter 1, two admissions, rows 1 and 2: the capacity check comes before the ramp check. -/
theorem test_admission_row1 : after (.slotPowerOn 5 [7, 1]) admissible (fun t =>
    (t.slot 7).state == .energizing && (t.slot 7).chargedInrush == some 1200 && t.ldm.rampLevel == 6000 &&
    t.ulc.q1 == [⟨.slot 7, .powerOn, none, .ldm, 0, false⟩]) = true := by decide +kernel

theorem test_admission_row2 :
    let s := { admissible with ldm := { admissible.ldm with pComm := 10600, rampLevel := 6000 } }
    admissionCheck .host 7 s = some .capacity := by decide +kernel

/-- Chapter 1, the limit of R8: 1,650 W for an allocation of 1,500 W. -/
theorem test_overdraw_limit :
    let s := withLine .answer (.poll (.slot 7) true)
      (withUnit (.slot 7) .present none 0 (withSlot 7 .on ⟨1500, 0, 0, 0, 0⟩ live))
    after (.answerComplete (answer 0x27 0x83 [2, 0x06, 0x73])) s (fun t => (t.slot 7).overdraw == 1) &&
    after (.answerComplete (answer 0x27 0x83 [2, 0x06, 0x72])) s (fun t => (t.slot 7).overdraw == 0) := by decide +kernel

/-- Chapter 2, the capacity of a shelf with one derated and one faulted module. -/
theorem test_capacity : capacityOf .nPlus1 [3000, 3000, contributionFor 3000 .derated 12, 3000, 3000, 0] = 11250 := by decide

/-- Chapter 3, one evaluation window. -/
theorem test_window :
    let w : Window := ⟨100, 1800920, 530640, 339400, Vector.replicate 4 0, #v[-340, 540, 200, -100], #v[3140, 0, 0, 0], false, .empty⟩
    let f := w.figures 0
    f.pAvg = 18010 ∧ f.vbusMean = 5306 ∧ f.iloadMean = 3394 ∧ f.iMean = #v[-3, 5, 2, -1] ∧ f.tMean[0] = 31 ∧ f.discharge = 7 := by
  decide +kernel

/-- Chapter 4, counting: the thirtieth frame of a steady discharge takes 1 mAh, and an empty module's residue goes to 0. -/
theorem test_charge :
    let s := withBatt 0 (fun b => { b with state := .online, q := 6000, r := 34800 }) live
    let e := withBatt 0 (fun b => { b with state := .online, q := 0, r := 34800 }) live
    after (.senseFrame (frame0 5310 3390 1200)) s (fun t => (t.batt 0).q == 5999 && (t.batt 0).r == 0) &&
    after (.senseFrame (frame0 5310 3390 1300)) e (fun t => (t.batt 0).q == 0 && (t.batt 0).r == 0) := by decide +kernel

/-- A test in a phase on module 1, with a count and the sums of the worked example of chapter 4. -/
def testing (p : TestPhase) (count vSum : Nat) (iSum : Int) : State :=
  let s := withBatt 1 (fun b => { b with state := .testing, q := 7100, resistance := 30 }) live
  { s with bmn := { s.bmn with test := ⟨some 1, p, count, vSum, iSum, some (5310, -12), some (5257, 198), some (.stored 25), true, true⟩ } }

/-- Chapter 4, an impedance test that stores: the result of MEASURE. -/
theorem test_impedance : after .measureEnd (testing .measure 50 262850 9900)
    (fun t => t.bmn.test.pending == some (.stored 25) && t.bmn.test.loaded == some (5257, 198)) = true := by decide +kernel

/-- Chapter 5, the first window of an outage: a ride time of 151 s and a shed of 2,900 W. -/
def outage : State :=
  let on := fun b : Battery => { b with state := .online, q := 6000, resistance := 25 }
  let s := withBatt 0 on (withBatt 1 on (withBatt 2 on live))
  let s := { s with lvs := { s.lvs with settings.batteryCapacity := Vector.replicate 4 6000 } }
  { s with
    brc := { s.brc with state := .bridging }
    sfe := { s.sfe with latest := ⟨18000, 0, 0, #v[5200, 5200, 5200, 0], Vector.replicate 4 0, Vector.replicate 4 0, 0, 0, .empty⟩ } }

theorem test_estimate :
    let e := bridgingEstimate outage
    e.n = 3 ∧ e.eTotal = 2863512 ∧ e.eEff = 2718099 ∧ e.tRide = 151 ∧ e.pTarget = some 15100 ∧ e.shedAmount = some 2900 := by
  decide +kernel

/-- Chapter 7, locating water on a rope. -/
theorem test_location :
    let l := LeakSettings.default 2
    position l 532 = 410 ∧ position l 538 = 415 ∧ position l 30 = 0 ∧ position l 2000 = 1500 := by decide

/-- Chapter 8, an event round: the split of the full range, and of 0x20 to 0x2F with 0x30 to 0x4F waiting. -/
theorem test_split :
    (Ulc.split ⟨0x10, 0x4F⟩ live.ulc).current = some ⟨0x10, 0x2F⟩ ∧ (Ulc.split ⟨0x10, 0x4F⟩ live.ulc).stack = [⟨0x30, 0x4F⟩] ∧
    (Ulc.split ⟨0x20, 0x2F⟩ { live.ulc with stack := [⟨0x30, 0x4F⟩] }).stack = [⟨0x28, 0x2F⟩, ⟨0x30, 0x4F⟩] := by decide

/-- R58: a crossing takes the value the capture counter holds, here held at the loss limit of 15,000. -/
theorem test_crossing_takes_counter :
    let s := { live with acm := { live.acm with phases := live.acm.phases.set 1 { live.phase 1 with counter := 15000, crossed := true } } }
    after (.zeroCrossing 1 10000) s (fun t => (t.phase 1).newest == some 15000 && (t.phase 1).counter == 0) = true := by
  decide +kernel

/-- R58: nine frames after a restart the counter stands at 9,000; a crossing at 10,000 is 1,000 µs later, and the frame of that
millisecond leaves the restarted counter at 0. -/
theorem test_crossing_at_frame :
    let s := { live with acm := { live.acm with phases := live.acm.phases.set 1 { live.phase 1 with counter := 9000, crossed := true } } }
    after (.zeroCrossing 1 10000) s (fun t => (t.phase 1).newest == some 10000 && (t.phase 1).counter == 0 &&
      after (.senseFrame (frame0 0 0 0)) t (fun v => (v.phase 1).counter == 0 &&
        after (.senseFrame (frame0 0 0 0)) v fun w => (w.phase 1).counter == 1000)) = true := by
  decide +kernel

/-- R166: the entry of a unit that a command's jabber marks QUIET is passed over at once, under POLL_HOLD too: with no other entry the
cycle has ended, and the next expiry counts no overrun. -/
theorem test_quiet_entry_passed_over :
    let s := withLine .answer (.command ⟨.slot 7, .powerOff, none, .ldm, 0, false⟩) (withUnit (.slot 7) .present none 0 live)
    let s := { s with
      lvs := { s.lvs with settings.pollTable := [.unit (.slot 7)], settings.arbiterStrategy := .pollHold }
      ulc := { s.ulc with cycleRunning := true, cycleTimer := some 0 } }
    after (.jabberInAnswer .length) s (fun t => t.ulc.cycleRunning == false &&
      after .pollCycleExpiry t fun v => v.ulc.linkOverrun == false && v.ulc.overrunCount == 0) = true := by
  decide +kernel

/-- R155: the call character 0xC9 with its mark bit set, least significant bit first, between start 0 and stop 1. -/
theorem test_call_bits : (CallChar.mk true 0xC9).bits =
    [false, true, false, false, true, false, false, true, true, true, true] := by decide

/-- R180: a frame is assembled from its bytes, a character with its stop bit 0 abandons it, and a byte other than 0xA5 is discarded
in HUNTING. -/
theorem test_assembly : assemble [] (portChar true 7 :: sent ⟨2, 9, [1]⟩) = ([], [.frame ⟨2, 9, [1]⟩]) ∧
    assemble [0xA5, 1, 2] [portChar false 9, portChar true 0xA5] = ([0xA5], [.framingError]) := by decide +kernel

/-- R180, R181: the characters that complete a frame of which two bytes are held hand it over, whatever the command they come in, and the reply
goes onto the line from its sync byte 0xA5 on. -/
theorem test_characters_complete_frame :
    let s := { live with mgp := { live.mgp with assembly := [0xA5, 0] } }
    after (.requestGapAbandon ((sent ⟨1, 9, []⟩).drop 2)) s (fun t => t.mgp.assembly == [] && t.mgp.pending == .free &&
      (t.mgp.reply.map fun f => (f.drop 2).take 3) == some [0x81, 9, 0] &&
      (List.range 10).map t.mgp.level == [false, true, false, true, false, false, true, false, true, true]) = true := by
  decide +kernel

/-- R178: the table of the port's rates. -/
theorem test_port_rates : [BitRate.b115200, .b230400, .b460800, .b921600].map BitRate.actual = [115385, 230769, 461538, 923077] := by
  decide

/-- R156: the table of the Unit Link's rates. -/
theorem test_link_rates : [(6, 0), (12, 0), (5, 8), (2, 15), (255, 0)].map (fun (n, k) => bitRateOf n k) =
    [250000, 125000, 272727, 727272, 5882] := by decide

/-- R162, R163: the change of presence to QUIET posts UNIT_PRESENCE. -/
theorem test_quiet_posts_presence :
    let s := withLine .answer (.poll (.slot 47) true) (withUnit (.slot 47) .present none 0 live)
    after (.jabberInAnswer .length) s
      (fun t => (t.nq.notices.drop 1).map (·.kind) == [.unitPresence, .unitQuiet] && t.presence (.slot 47) == .quiet) = true := by
  decide +kernel

/-- A step of the queue: the front command runs and leaves the queue. -/
theorem test_step : (match step { live with pending := [.lineIdle, .lineGrant] } with
    | .next t => t.pending == [.lineGrant]
    | _ => false) = true := by decide +kernel

/-! ## Witnesses: the queue, the invariants, the sense frame and the window -/

theorem witness_StepRunsFrontCommand : live.pending = [] := rfl

theorem witness_PowerOnResetStartsAnew :
    live.lvs.image = none ∧ { live with lvs := { live.lvs with image := some .default } }.lvs.image = some .default := ⟨rfl, rfl⟩

/-- A part at work: slot 7 ON, slot 9 SHED and on the Restore List, zone 3 wet and isolated with slot 20 in it, a queued call for
each of two slots, and a notice waiting. -/
def busy : State :=
  let s := withSlot 20 .isolated ⟨500, 0, 3, 0, 0⟩ (withSlot 9 .shed ⟨800, 0, 1, 0, 0⟩ (withSlot 7 .on example1 live))
  let s := { s with ldm := { s.ldm with
    slots := s.ldm.slots.set 9 { s.slot 9 with shedReason := some .bridging }
    zones := s.ldm.zones.set 3 ⟨true, true, none, true⟩
    restoreList := [9], pComm := 1000, rampLevel := 6000 } }
  { s with
    lkm := { s.lkm with
      channels := s.lkm.channels.set 3 { s.channel 3 with state := .confirmed }, wetView := s.lkm.wetView.set 3 true }
    nq := ⟨[⟨7, .zoneIsolated, 3, []⟩], false, true⟩
    rsv := { s.rsv with rects := s.rsv.rects.set 2 ⟨.online, 16, false, none, none, 0, 10, none, 3000⟩, pAvail := 0 }
    bmn := { s.bmn with batts := s.bmn.batts.set 1 { s.batt 1 with state := .online, q := 8000, r := 35999 } }
    ulc := { s.ulc with
      units := ⟨s.ulc.units.rects.set 2 ⟨.present, none, 0, none⟩, s.ulc.units.batts.set 1 ⟨.quiet, some .present, 0, none⟩,
        ((s.ulc.units.slots.set 7 ⟨.present, none, 0, none⟩).set 9 ⟨.present, none, 0, none⟩).set 20 ⟨.present, none, 0, none⟩⟩
      q0 := [⟨.slot 9, .powerOff, none, .ldm, 0, false⟩], q1 := [⟨.slot 8, .powerOn, none, .ldm, 1, false⟩] }
    lvs := { s.lvs with settings.leaks := s.cfg.leaks.set 3 { s.cfg.leaks[3] with enabled := true } } }

theorem witness_NoticesStayOk : NoticesOk busy := by unfold NoticesOk; decide +kernel
theorem witness_SupplyStaysOk : ShelfOk busy ∧ ChargeOk busy ∧ PresentOk busy ∧ TestOk busy ∧ RetryOk busy ∧ CapacityOk busy := by
  unfold ShelfOk ChargeOk PresentOk TestOk RetryOk CapacityOk; decide +kernel
theorem witness_LoadManagerStaysOk : CommittedOk busy ∧ RampOk busy ∧ RestoreOk busy := by
  unfold CommittedOk RampOk RestoreOk; decide +kernel
theorem witness_ZonesStayOk : ZonesOk busy ∧ WetOk busy ∧ ChannelsOk busy := by
  unfold ZonesOk WetOk ChannelsOk; decide +kernel

theorem queuesOk_of_empty {s : State} (h0 : s.ulc.q0 = []) (h1 : s.ulc.q1 = []) (ht : s.ulc.transaction = none) : QueuesOk s := by
  simp [QueuesOk, Ulc.q1Load, Ulc.inFlight, h0, h1, ht]

theorem busy_queuesOk : QueuesOk busy := by unfold QueuesOk RecordOk; decide +kernel

/-- `busy` in an event round, with two ranges stacked under the one that is called. -/
def splitting : State :=
  { withLine .answer (.eventCall ⟨0x20, 0x27⟩ true) busy with ulc := { (withLine .answer (.eventCall ⟨0x20, 0x27⟩ true) busy).ulc with
      current := some ⟨0x20, 0x27⟩, stack := [⟨0x28, 0x2F⟩, ⟨0x30, 0x4F⟩] } }

/-- A reply being sent, with the first bytes of a request received behind it. -/
def answering : State := { live with mgp := { live.mgp.startReply [0xA5, 0] with assembly := [0xA5, 0, 2] } }

theorem witness_LinkStaysOk_port : PortOk answering := ⟨rfl, by decide, rfl, by decide, by decide⟩

/-- An event round in progress at the last entry of the Poll Table, its current range called, with two ranges stacked. -/
def calling (l : LineState) (r : AddrRange) : State :=
  withLine l (.eventCall r true)
    { live with ulc := { live.ulc with
        cycleRunning := true, cycleTimer := some 0, cursor := 58, current := some r, stack := [⟨0x20, 0x2F⟩, ⟨0x30, 0x4F⟩] } }

theorem calling_pollOk (l : LineState) : PollOk (calling l ⟨0x10, 0x1F⟩) :=
  ⟨by cases l <;> decide +kernel, fun x h => by simp [calling, withLine] at h,
    fun r h => by obtain rfl : AddrRange.mk 0x10 0x1F = r := by simpa [calling, withLine] using h
                  exact ⟨⟨rfl, by cases l <;> decide +kernel⟩, rfl, rfl⟩,
    fun x h => by simp [calling, withLine] at h⟩

theorem witness_LinkStaysOk_poll : PollOk (calling .answer ⟨0x10, 0x1F⟩) := calling_pollOk .answer

theorem witness_LinkStaysOk : LinkOk splitting :=
  ⟨by decide +kernel, by decide +kernel, by decide +kernel, by decide +kernel, by decide +kernel,
    fun r h => by obtain rfl : AddrRange.mk 0x20 0x27 = r := by simpa [splitting, withLine] using h
                  decide +kernel,
    by decide +kernel, by decide +kernel, fun _ _ h => absurd h (by decide +kernel), by decide +kernel⟩

theorem busy_inRange : InRange busy.cfg := by
  refine ⟨fun k => ?_, by decide +kernel, by unfold LeakInRange; decide +kernel, by decide +kernel, trivial⟩
  cases k with
  | rectifierRating k => revert k; decide +kernel
  | rectifierFeed k => revert k; decide +kernel
  | batteryCapacity i => revert i; decide +kernel
  | _ => decide +kernel

theorem busy_settingsOk : SettingsOk busy :=
  ⟨busy_inRange, fun c h => (Option.some_ne_none c h.symm).elim, fun c h => (Option.some_ne_none c h.symm).elim⟩

theorem witness_SettingsStayOk : SettingsOk busy := busy_settingsOk

theorem witness_QueuesStayOk : QueuesOk busy ∧ SettingsOk busy := ⟨busy_queuesOk, busy_settingsOk⟩

/-- `busy` with its sequencer holding for RAMP at slot 7, slot 3 admitted. -/
def sequencing : State :=
  { busy with seq := { busy.seq with
      active := some ⟨5, [⟨[3, 7], 100, .ready, 5000, .skip⟩]⟩, state := .held, holdReason := some .ramp, cursor := 1
      admitted := [(3, true)], stepBegun := true } }

theorem witness_SequencerStaysOk : SequencerOk sequencing ∧ SettingsOk sequencing :=
  ⟨⟨trivial, fun _ => ⟨_, _, rfl, by decide, rfl, by decide, by decide⟩, fun h => absurd h (by decide), by decide, by decide, by decide,
    fun r h => (Option.some_ne_none r h.symm).elim, by decide, by decide, fun _ _ h => (Option.some_ne_none _ h.symm).elim⟩,
    busy_settingsOk⟩

theorem witness_EnergizedOnlyByAdmission :
    (admissible.slot 7).state ≠ .energizing ∧ (match step { admissible with pending := [.slotPowerOn 5 [7, 1]] } with
      | .next t => (t.slot 7).state == .energizing
      | _ => false) = true := by decide +kernel

/-- Zone 7 isolated and dry. -/
def isolated7 : State := { live with ldm := { live.ldm with zones := live.ldm.zones.set 7 ⟨false, true, none, true⟩ } }

theorem witness_IsolationEndsByReleaseAlone :
    (isolated7.zone 7).isolated = true ∧ (match step { isolated7 with pending := [.zoneRelease 5 [7]] } with
      | .next t => !(t.zone 7).isolated
      | _ => false) = true ∧
    (∀ c ∈ [Instr.requestGapAbandon (sent ⟨0x0F, 5, [7]⟩), .requestFramingError (sent ⟨0x0F, 5, [7]⟩),
        .requestLengthAbandon (sent ⟨0x0F, 5, [7]⟩), .requestCrcDiscard (sent ⟨0x0F, 5, [7]⟩)],
      after c isolated7 (fun t => !(t.zone 7).isolated) = true) ∧
    after .replySent { isolated7 with mgp := { isolated7.mgp with reply := some [0xA5], pending := .waiting ⟨0x0F, 5, [7]⟩ } }
      (fun t => !(t.zone 7).isolated) = true := by decide +kernel

theorem witness_FramePower : (frame0 5310 3390 0).vbus = 5310 ∧ (frame0 5310 3390 0).iload = 3390 ∧
    (limitFrame (frame0 5400 14000 0)).power = 65535 ∧ (limitFrame (frame0 5400 14000 0)).saturated.power = true ∧
    (limitFrame (frame0 70000 99999 0)).vbus = 65535 := by decide +kernel

/-- Modules 0 to 2 at the edges of their residues and charges, module 3 ABSENT. -/
def counting : State :=
  let on := fun (q : Nat) (r : Int) (b : Battery) => { b with state := .online, q := q, r := r }
  withBatt 0 (on 0 35999) (withBatt 1 (on 8000 (-35999)) (withBatt 2 (on 1 0) live))

theorem witness_FrameCountsCharge : nothingDue counting ∧ ChargeOk counting ∧
    (counting.batt 0).state = .online ∧ (counting.batt 3).state = .absent ∧
    36000 ≤ (counting.batt 0).r + (limitFrame (frame0 0 0 1)).ibm[0] := by
  refine ⟨⟨by decide +kernel, fun i h => (Option.some_ne_none i h.symm).elim, by decide +kernel⟩, ?_⟩
  unfold ChargeOk; decide +kernel

theorem witness_WindowFillsAndCompletes : ({ live.sfe.window with count := 99 } : Window).count < 100 ∧
    100 ≤ (withWindow 0 live).sfe.window.count := by decide

/-- A window above P_avail with a POWER ON queued for the ENERGIZING slot 7. -/
def overloaded : State :=
  let s := withWindow 1 live
  { s with
    brc := { s.brc with acSeen := true }
    ldm := { s.ldm with slots := s.ldm.slots.set 7 { s.slot 7 with state := .energizing } }
    ulc := { s.ulc with q1 := [⟨.slot 7, .powerOn, none, .ldm, 0, false⟩] } }

theorem witness_WindowInGrid :
    (let s := withWindow 0 live
    100 ≤ s.sfe.window.count ∧ CapacityOk s ∧ s.brc.state = .grid ∧ nothingHeld s ∧
    (s.brc.acSeen = true → (s.sfe.window.powerSum + 99) / 100 ≤ s.rsv.pAvail) ∧
    (s.sfe.window.figures s.sfe.latest.windowCount).discharge ≤ s.cfg.dischargeThresh) ∧
    100 ≤ overloaded.sfe.window.count ∧ CapacityOk overloaded ∧ overloaded.brc.state = .grid ∧
    overloaded.brc.acSeen = true ∧ overloaded.rsv.pAvail < (overloaded.sfe.window.powerSum + 99) / 100 ∧
    overloaded.ulc.q1.any (isPowerOnFor 7) = true ∧ (overloaded.slot 7).state = .energizing := by
  refine ⟨⟨by decide +kernel, by unfold CapacityOk; decide +kernel, by decide +kernel,
    ⟨fun h hs => absurd hs (by decide +kernel), fun r e hs => absurd hs (by decide +kernel)⟩, by decide +kernel, by decide +kernel⟩, ?_⟩
  unfold CapacityOk; decide +kernel

/-- The first window of the outage of chapter 5, with the window not yet formed. -/
def firstWindow : State :=
  { outage with sfe := { outage.sfe with window :=
      { outage.sfe.window with count := 100, powerSum := 1800000, vbmSum := #v[520000, 520000, 520000, 0] } } }

/-- The order of the worked examples and its reverse. -/
def orders : List (List WindowBlock) := [[.brc, .ldm, .seq, .bmn, .rsv], [.rsv, .bmn, .seq, .ldm, .brc]]

/-- Slot 7 admissible at a window completion, its step HELD for RAMP at it. -/
def heldAdmission : State :=
  let s := withWindow 0 (withPlan .held admissible)
  let on : Rectifier := ⟨.online, 16, false, none, none, 0, 10, none, 3000⟩
  { s with
    rsv := { s.rsv with rects := (s.rsv.rects.set 2 on).set 3 on, pAvail := 3000 }
    lvs := { s.lvs with settings.rampCeilingW := 6000 }
    seq := { s.seq with holdReason := some .ramp } }

/-- A restore run HELD for CAPACITY over slot 7, admissible at a window completion. -/
def heldRestore (l : List (Fin 48)) : State :=
  { heldAdmission with
    seq := { live.seq with state := .restoring, restore := some ⟨none, .held, some .capacity, none, none, 2⟩ }
    ldm := { heldAdmission.ldm with restoreList := l } }

theorem witness_WindowInGrid_held : CapacityOk heldAdmission ∧ CapacityOk (heldRestore [7]) ∧
    100 ≤ heldAdmission.sfe.window.count ∧ heldAdmission.brc.state = .grid ∧
    (heldAdmission.sfe.window.figures heldAdmission.sfe.latest.windowCount).discharge ≤ heldAdmission.cfg.dischargeThresh ∧
    heldAdmission.seq.state = .held ∧ heldAdmission.seq.holdReason = some .ramp ∧ mayClear heldAdmission .ramp ∧
    heldAdmission.seq.slotAtCursor = some 7 ∧ (heldAdmission.slot 7).state = .off ∧
    (heldAdmission.zone (heldAdmission.zoneOf 7)).wet = false ∧ restoreMayClear (heldRestore []) .capacity ∧
    (heldRestore []).seq.startPending = false ∧
    (∀ o ∈ orders, ordersBlocks o = true ∧ admissionCheck .plan 7 (sequencerSees o heldAdmission) = none ∧
      admissionCheck .restore 7 (sequencerSees o (heldRestore [7])) = none ∧
      admissionCheck .plan 7 (sequencerSees o { heldAdmission with ldm := { heldAdmission.ldm with pComm := 2900 } }) =
        some .capacity) ∧
    ({ heldAdmission with seq := { heldAdmission.seq with active := some ⟨1, [⟨[8], 100, .ready, 5000, .skip⟩]⟩ } } :
      State).seq.slotAtCursor = some 8 ∧ (heldAdmission.slot 8).state = .vacant := by
  refine ⟨by unfold CapacityOk; decide +kernel, by unfold CapacityOk; decide +kernel, by decide +kernel, by decide +kernel,
    by decide +kernel, by decide +kernel, by decide +kernel, trivial, by decide +kernel, by decide +kernel, by decide +kernel, trivial,
    by decide +kernel, by decide +kernel, by decide +kernel⟩

theorem witness_BudgetShed_queues : QueuesOk firstWindow := queuesOk_of_empty rfl rfl rfl

theorem witness_BudgetShed : CapacityOk firstWindow ∧ 100 ≤ firstWindow.sfe.window.count ∧ firstWindow.brc.state = .bridging ∧
    firstWindow.brc.shedSettle = none ∧ ∀ o ∈ orders, ordersBlocks o = true ∧
      (bridgeSees o firstWindow).inputSufficient = false ∧ (bridgeSees o firstWindow).countedModules ≠ 0 ∧
      (bridgingEstimate (bridgeSees o firstWindow)).shedAmount = some 2900 := by
  unfold CapacityOk; decide +kernel

theorem outage_inRange : InRange outage.cfg := by
  refine ⟨fun k => ?_, by decide +kernel, by unfold LeakInRange; decide +kernel, by decide +kernel, trivial⟩
  cases k with
  | rectifierRating k => revert k; decide +kernel
  | rectifierFeed k => revert k; decide +kernel
  | batteryCapacity i => revert i; decide +kernel
  | _ => decide +kernel

theorem witness_EstimateLimits : SettingsOk outage ∧ ((bridgingEstimate outage).positions[2]).isSome = true ∧
    (bridgingEstimate outage).shedAmount = some 2900 ∧ (coverageEstimate outage 0).pBatt = 0 ∧
    (bridgingEstimate live).n = 0 := by
  refine ⟨⟨outage_inRange, fun c h => (Option.some_ne_none c h.symm).elim, fun c h => (Option.some_ne_none c h.symm).elim⟩, ?_⟩
  decide +kernel

/-! ## Witnesses: the AC line, rectifiers and batteries -/

theorem witness_PhaseEvents : (min 65535 (max 14999 (live.phase 2).counter) : Nat) < live.cfg.lossLimit ∧
    live.cfg.lossLimit ≤ min 65535 (max 15000 (live.phase 2).counter) ∧
    live.cfg.halfPeriodTolerancePct ≤ 20 ∧ (live.phase 2).crossed = false ∧
    ({ live.phase 2 with crossed := true } : PhaseRecord).crossed = true := by decide +kernel

/-- Only L3 PRESENT, with RM2 ONLINE on it. -/
def onePhase : State :=
  let s := withRect 2 (fun r => { r with state := .online, derate := 16 }) live
  { s with acm := ⟨s.acm.phases.set 2 { s.phase 2 with state := .present }, .partialInput⟩ }

theorem witness_LossOfInputBridges : (onePhase.phase 2).state = .present ∧
    (∀ o : Fin 3, o ≠ 2 → (onePhase.phase o).state ≠ .present) ∧ onePhase.acm.shelf = .partialInput ∧
    onePhase.brc.state = .grid ∧ ({ onePhase.brc with state := .recovering } : Brc).state = .recovering ∧ onePhase.cfg.rectifierFeed[2] = 2 ∧ (onePhase.rect 2).state = .online := by decide +kernel

/-- RM5 FAULTED in a retry phase with its timer running. -/
def retrying (p : RetryPhase) : State :=
  withRect 5 (fun r => { r with state := .faulted, retryPhase := some p, retryTimer := some 1, retryCount := 3 }) live

theorem witness_RetryEvents : (live.rect 5).retryTimer = none ∧ (live.rect 5).state ≠ .online ∧
    ((retrying .delay).rect 5).retryTimer ≠ none ∧ ((retrying .delay).rect 5).state = .faulted ∧
    ((retrying .delay).rect 5).retryPhase = some .delay ∧ ((retrying .trial).rect 5).retryPhase = some .trial ∧
    (onePhase.rect 2).state = .online := by decide +kernel

/-- RM2's poll being answered. -/
def rectPolled (s : State) : State :=
  withLine .answer (.poll (.rectifier 2) true) (withUnit (.rectifier 2) .present none 0 s)

theorem witness_RectifierAnswered :
    polled (rectPolled onePhase) (.rectifier 2) (answer 0x12 0x81 [1, 0, 16]) 0x81 [1, 0, 16] ∧
    (rectPolled onePhase).fed 2 = true ∧ (rectPolled live).fed 2 = false :=
  ⟨⟨rfl, by decide +kernel, true, rfl, by decide +kernel⟩, by decide +kernel⟩

theorem witness_SlotAnswered :
    polled (withLine .answer (.poll (.slot 7) true) admissible) (.slot 7) (answer 0x27 0x83 [3, 1, 2]) 0x83 [3, 1, 2] ∧
    (3 : Byte).toNat = UnitPower.fault.ctorIdx :=
  ⟨⟨rfl, by decide +kernel, true, rfl, by decide +kernel⟩, rfl⟩

theorem witness_BatteryAnswered :
    let s := withLine .answer (.poll (.battery 3) true) (withUnit (.battery 3) .present none 0
      (withBatt 3 (fun b => { b with state := .online }) live))
    polled s (.battery 3) (answer 0x1B 0x82 [73, 7]) 0x82 [73, 7] ∧ (s.batt 3).state = .online ∧
    ((withBatt 3 (fun b => { b with state := .faulted }) s).batt 3).tempFault = false :=
  ⟨⟨rfl, by decide +kernel, true, rfl, by decide +kernel⟩, by decide +kernel⟩

/-- Module 0 in a state with its temperature mean at `mean` in a full window and its counts at 9. -/
def tempered (mean : Int) (b : Battery → Battery) : State :=
  let s := withBatt 0 (fun x => b { x with outCount := 9, inCount := 9 }) (withWindow 0 live)
  { s with sfe := { s.sfe with window := { s.sfe.window with tbmSum := #v[mean * 100, 0, 0, 0] } } }

theorem witness_BatteryConditions :
    (let s := tempered 61 fun b => { b with state := .online }
    100 ≤ s.sfe.window.count ∧ (s.batt 0).tempFault = false ∧ ¬ (s.sfe.window.tbmSum[(0 : Fin 4)].tdiv 100 ≤ 60) ∧
      10 ≤ (s.batt 0).outCount + 1) ∧
    (∀ f : Bool, let s := tempered (-5) fun b => { b with state := .faulted, tempFault := true, reportedFault := f };
    -5 ≤ s.sfe.window.tbmSum[(0 : Fin 4)].tdiv 100 ∧ (s.batt 0).state = .faulted ∧ 10 ≤ (s.batt 0).inCount + 1) ∧
    CapacityOk (tempered 61 fun b => b) ∧ nothingDue counting ∧ (counting.batt 2).state = .online := by
  refine ⟨by decide +kernel, by decide +kernel, by unfold CapacityOk; decide +kernel,
    ⟨by decide +kernel, fun i h => (Option.some_ne_none i h.symm).elim, by decide +kernel⟩, by decide +kernel⟩

theorem witness_BatteryConditions_test : TestOk (withUnit (.battery 0) .present none 0 (tempered 61 fun b => { b with state := .online })) := by
  unfold TestOk; decide +kernel

/-- A part that may test module 3. -/
def testable : State :=
  let s := withBatt 3 (fun b => { b with state := .online, q := 4000 }) live
  { s with acm := { s.acm with shelf := .good } }

theorem witness_ImpedanceTestPhases_start : portReady testable ∧ portReady (testing .settle 0 0 0) ∧
    testable.bmn.test.phase = .idle ∧ testable.bmn.lastBridge = .grid ∧ testable.acm.shelf = .good ∧
    (testable.batt 3).state = .online ∧
    testable.cfg.batteryCapacity[3] * testable.cfg.testMinSocPct / 100 ≤ (testable.batt 3).q ∧
    (testing .settle 0 0 0).bmn.test.phase ≠ .idle ∧ live.acm.shelf ≠ .good := by unfold portReady; decide +kernel

theorem witness_ImpedanceTestPhases_ends : (testing .baseline 50 0 0).bmn.test.module = some 1 ∧
    (testing .baseline 50 0 0).bmn.test.phase = .baseline ∧ (testing .baseline 50 0 0).roomInQ1 = true ∧
    (testing .settle 20 0 0).bmn.test.phase = .settle ∧ 20 ≤ (testing .settle 20 0 0).bmn.test.count ∧
    (testing .releaseSettle 20 0 0).bmn.test.pending = some (.stored 25) ∧
    (testing .closing 0 0 0).bmn.test.releaseOwed = true ∧
    ({ testing .baseline 50 0 0 with ulc := { live.ulc with
      q1 := List.replicate 64 ⟨.slot 0, .powerOn, none, .ldm, 0, false⟩ } } : State).roomInQ1 = false := by decide +kernel

theorem witness_ImpedanceTestPhases_result : (testing .measure 50 262850 9900).bmn.test.module = some 1 ∧
    (testing .measure 50 262850 9900).bmn.test.phase = .measure ∧ 50 ≤ (testing .measure 50 262850 9900).bmn.test.count ∧
    (testing .measure 50 262850 9900).bmn.test.base = some (5310, -12) := by decide

/-- The rack in BRIDGING in a full window with its one battery module DEPLETED. -/
def exhausted : State :=
  withBatt 0 (fun b => { b with state := .depleted, q := 6000 })
    { withWindow 1800000 live with brc := { live.brc with state := .bridging } }

theorem witness_BridgeStates_premises : QueuesOk firstWindow ∧ CapacityOk exhausted ∧ QueuesOk exhausted ∧
    100 ≤ exhausted.sfe.window.count :=
  ⟨queuesOk_of_empty rfl rfl rfl, by unfold CapacityOk; decide +kernel, queuesOk_of_empty rfl rfl rfl, by decide +kernel⟩

theorem witness_BridgeStates : live.brc.state ≠ .recovering ∧
    ({ live.brc with state := .recovering, stable := some 0 } : Brc).stable ≠ none ∧ CapacityOk firstWindow ∧
    firstWindow.brc.state ≠ .grid ∧ ∀ o ∈ orders, ordersBlocks o = true ∧
      (bridgeSees o firstWindow).inputSufficient = false ∧
      (bridgeSees o (withWindow 0 { onePhase with brc := { live.brc with state := .bridging } })).inputSufficient = true ∧
      (let s := exhausted
      (bridgeSees o s).inputSufficient = false ∧ (bridgeSees o s).countedModules = 0 ∧ (bridgeSees o s).anyDepleted = true ∧
        0 < (bridgingEstimate (bridgeSees o s)).pBatt ∧ s.brc.shedSettle = none) := by
  unfold CapacityOk; decide +kernel

/-- The Bridge Controller at the end of its stable time, over a sequencer and a Restore List. -/
def stabilising (q : Seq) (l : List (Fin 48)) : State :=
  { admissible with
    brc := { live.brc with state := .recovering, stable := some 0 }
    seq := { q with bridgeHold := true }
    ldm := { admissible.ldm with restoreList := l } }

theorem witness_BridgeStates_gridEntry :
    let kept : RestoreRun := ⟨some .held, .held, some .bridging, none, none, 2⟩
    let held := { (withPlan .held live).seq with holdReason := some .bridging }
    let run := { held with state := .restoring, restore := some kept }
    (stabilising run [7]).seq.restore = some kept ∧ admissionCheck .restore 7 (entersGrid (stabilising run [7])) = none ∧
    admissionCheck .restore 8 (entersGrid (stabilising run [8])) = some .state ∧ (stabilising run []).ldm.restoreList = [] ∧
    (stabilising run []).seq.holdReason = some .bridging ∧ held.stepBegun = true ∧
    held.step = some ⟨[7], 100, .ready, 5000, .skip⟩ ∧ ({ held with stepBegun := false } : Seq).stepBegun = false ∧
    (stabilising held [7]).cfg.autoRestore = true ∧ (stabilising held [7]).seq.state ≠ .restoring ∧
    (stabilising live.seq []).seq.state ≠ .held ∧ (stabilising held []).brc.stable ≠ none := by decide +kernel

/-! ## Witnesses: the sequencer -/

theorem witness_SequencerJudgesSlot : judging (withPlan .running admissible) 7 ∧ live.seq.state ≠ .running ∧
    ((withPlan .running admissible).slot 7).state = .off ∧ admissionCheck .plan 7 (withPlan .running admissible) = none ∧
    admissionCheck .plan 7 (withPlan .running { admissible with rsv := { admissible.rsv with pAvail := 0 } }) = some .capacity ∧
    RefusalReason.capacity.holdReason = some .capacity ∧ RefusalReason.zoneWet.holdReason = none ∧
    judging (withPlan .running busy) 7 ∧ ((withPlan .running busy).slot 7).state = .on ∧
    ((withPlan .running live).slot 7).state = .vacant ∧
    (withPlan .running admissible).seq.step = some ⟨[7], 100, .ready, 5000, .skip⟩ := by unfold judging; decide +kernel

theorem witness_SequencerTimers_step :
    let s := withPlan .awaiting live
    let q := { s.seq with awaitTimer := some 0 }
    let p : PlanStep := ⟨[7], 100, .ready, 5000, .skip⟩
    q.state = .awaiting ∧ q.awaitTimer ≠ none ∧ q.step = some p ∧ (withPlan .settling live).seq.state = .settling ∧
    ({ q with settleTimer := some 0 } : Seq).settleTimer ≠ none ∧
    (1 : Nat) ≤ s.seq.stepIndex + 1 ∧ s.seq.startPending = false ∧ s.seq.stepIndex + 1 < [p, p].length := by decide +kernel

/-- A restore run in SETTLE with the Restore List `l`. -/
def restoring (l : List (Fin 48)) (s : State) : State :=
  { s with
    seq := { s.seq with state := .restoring, restore := some ⟨none, .settle, none, none, some 0, 2⟩ }
    ldm := { s.ldm with restoreList := l } }

theorem witness_SequencerTimers_restore : (restoring [] live).seq.state = .restoring ∧
    (restoring [] live).ldm.restoreList = [] ∧ (restoring [] live).seq.startPending = false ∧
    ({ (restoring [] live).seq with restore := some ⟨some .held, .settle, none, none, some 0, 2⟩ } : Seq).restore =
      some ⟨some .held, .settle, none, none, some 0, 2⟩ ∧
    admissionCheck .restore 7 (restoring [7] admissible) = none ∧
    admissionCheck .restore 9 (restoring [9] busy) = some .capacity := by decide +kernel

theorem witness_PlanRequests : portReady live ∧
    ({ live.seq with staged := .ready ⟨1, []⟩ } : Seq).staged = .ready ⟨1, []⟩ ∧ (heard live).seq.state = .idle ∧
    (heard (withPlan .held live)).seq.state = .held ∧ (withPlan .paused live).seq.state = .paused ∧
    ({ (withPlan .held live).seq with holdReason := some .readyTimeout } : Seq).step = some ⟨[7], 100, .ready, 5000, .skip⟩ ∧
    (withPlan .held live).seq.slotAtCursor = some 7 ∧ (admissible.slot 7).state = .off ∧
    (admissible.zone (admissible.zoneOf 7)).wet = false ∧ admissionCheck .plan 7 (withPlan .held admissible) = none ∧
    admissionCheck .plan 7 (withPlan .held { admissible with rsv := { admissible.rsv with pAvail := 0 } }) = some .capacity ∧
    RefusalReason.capacity.holdReason = some .capacity := by
  unfold portReady; decide +kernel

theorem witness_PlanRequests_restoring :
    let r := fun k : Option SeqState => (⟨k, .settle, none, none, some 0, 2⟩ : RestoreRun)
    portReady live ∧ (∀ k : Option SeqState, ({ live.seq with state := .restoring, restore := some (r k) } : Seq).restore = some (r k)) ∧
    (r none).kept = none ∧ (r (some .held)).kept = some .held ∧ (r (some .paused)).kept = some .paused ∧
    ({ live.seq with pausedFrom := some (.held, some .ramp) } : Seq).pausedFrom = some (.held, some .ramp) :=
  ⟨by unfold portReady; decide +kernel, fun _ => rfl, rfl, rfl, rfl, rfl⟩

/-- A staged buffer of two steps being filled. -/
def filling : State := { live with seq := { live.seq with staged := .filling 7 [none, none] } }

/-- A step record: slot 7, settle 100 ms, no await. -/
def stepRecord : List Byte := [1, 7, 0, 0, 0, 0, 0, 0, 0, 0, 100, 0, 0, 0, 3, 232, 0]

theorem witness_PlanBuffers : portReady filling ∧ (stepRecord ++ stepRecord).length % 17 = 0 ∧
    (heard filling).seq.staged = .filling 7 [none, none] ∧ stepOf stepRecord = some ⟨[7], 100, .none, 1000, .skip⟩ ∧
    stepOf (List.replicate 17 9) = none ∧ (64 < (65 : Byte).toNat) ∧ (1 ≤ (64 : Byte).toNat ∧ (64 : Byte).toNat ≤ 64) ∧
    (heard live).seq.staged = .empty ∧ ([none, none] : List (Option PlanStep)).length < (1 : Byte).toNat + 2 ∧
    (∀ k < 2, stepOf (((stepRecord ++ stepRecord).drop (17 * k)).take 17) =
      [(⟨[7], 100, .none, 1000, .skip⟩ : PlanStep), ⟨[7], 100, .none, 1000, .skip⟩][k]?) ∧
    State.reset.lvs.level = .configure ∧ portReady State.reset ∧ live.lvs.level = .supervise ∧
    ({ State.reset.cfg with storedPlan := .filling 7 [none, none] } : Settings).storedPlan = .filling 7 [none, none] := by
  unfold portReady; decide +kernel

/-! ## Witnesses: leaks, zones and slots -/

theorem witness_LeakSampled : (busy.leakCfg 3).enabled = true ∧ (busy.leakCfg 7).enabled = false ∧
    (SampleClass.wet).run = some .wet ∧ (busy.leakCfg 3).covers 3 = true ∧ (busy.leakCfg 3).policy = .isolate ∧
    (busy.channel 3).state = .confirmed ∧ LeakState.confirmed.active .asDry = true ∧ LeakState.openFault.active .asWet = true ∧
    LeakState.dry.active .asDry = false := by
  decide +kernel

/-- One sample changes channel 3 of `busy` alone, and a loop above 100,000 takes it to OPEN_FAULT with the location kept. -/
theorem witness_LeakSampled_change :
    let s := { busy with lvs := { busy.lvs with settings := { busy.cfg with
      leaks := busy.cfg.leaks.set 3 { busy.cfg.leaks[3] with enabled := true, openCount := 1 } } } }
    after (.leakSample (Vector.replicate 8 ⟨0, 100001⟩)) s (fun t => (t.channel 3).state == .openFault && (t.channel 3).priorWet &&
      (t.channel 5).state == (s.channel 5).state) = true := by decide +kernel

/-- The delay timer of zone 7 running. -/
def delaying (s : State) : State := { s with lkm := { s.lkm with delay := s.lkm.delay.set 7 (some 1) } }

theorem witness_ZoneIsolationAndRelease : live.lkm.delay[7] = none ∧ (delaying isolated7).lkm.delay[7] ≠ none ∧
    ((delaying isolated7).zone 7).isolated = true ∧ ((delaying live).zone 7).isolated = false ∧ portReady isolated7 ∧
    8 ≤ (8 : Byte).toNat ∧ (7 : Byte).toNat = (7 : Fin 8) ∧ (isolated7.zone 7).wet = false ∧
    (busy.zone 3).isolated = true ∧ (busy.zone 3).wet = true ∧ (live.zone 7).isolated = false := by
  unfold portReady; decide +kernel

theorem witness_SlotPowered_on : portReady admissible ∧ 48 ≤ (48 : Byte).toNat ∧ (7 : Byte).toNat = (7 : Fin 48) ∧
    admissionCheck .host 7 (heard admissible) = none ∧ CommittedOk admissible ∧
    admissible.ulc.isQueued (isPowerOnFor 7) = false ∧ admissionCheck .host 47 (heard admissible) = some .state := by
  unfold portReady CommittedOk; decide +kernel

theorem witness_SlotPowered_off : portReady busy ∧ (47 : Byte).toNat = (47 : Fin 48) ∧ (busy.slot 7).state = .on ∧
    (busy.slot 9).state = .shed ∧ (busy.slot 20).state = .isolated ∧ (busy.slot 47).state = .vacant := by
  unfold portReady; decide +kernel

theorem witness_SlotCleared :
    let s := withSlot 47 .faulted example1 busy
    portReady s ∧ (s.slot 47).state = .faulted ∧ (s.slot 9).state = .shed ∧ (s.slot 7).state = .on ∧
    (s.slotCfg 47).allocation ≠ 0 ∧
    (Transaction.poll (.slot 47) true).judge (answer 0x4F 0x83 [3, 0, 0]) = .good ⟨0x4F, 0x83, [3, 0, 0]⟩ := by
  unfold portReady; decide +kernel

theorem witness_SlotWritten : portReady live ∧ (31 < (32 : Byte).toNat) ∧ (31 : Byte) ≠ 0 ∧ (31 : Byte).toNat ≤ 31 ∧
    (31 : Byte).getLsbD 2 = true ∧ (27 : Byte).getLsbD 2 = false ∧ live.lvs.level = .supervise ∧
    State.reset.lvs.level = .configure ∧ State.reset.lvs.commit = none ∧ portReady State.reset ∧ 8 ≤ (8 : Byte).toNat ∧
    CommittedOk live := by
  unfold portReady CommittedOk; decide +kernel

/-- A VACANT slot whose PRESENT unit is STARTING is seeded by a written allocation, and an ON slot moved to the isolated zone 3 is cut. -/
theorem witness_SlotWritten_states :
    afterAllocation 500 true true (some .starting) .vacant = .isolated ∧ afterAllocation 0 false true none .off = .vacant ∧
    afterZone 500 false true .on = .isolated ∧ afterZone 0 true false .isolated = .vacant ∧
    (busy.zone 3).isolated = true ∧ (busy.zone (busy.zoneOf 7)).isolated = false := by decide +kernel

/-- The 22 setting bytes of a WRITE_LEAK that enables a rope channel. -/
def leakBytes : List Byte := [1, 0, 4, 1, 0, 0, 50, 0, 20, 20, 0, 100, 50, 3, 232, 0, 0, 40, 0, 120, 5, 220]

theorem witness_LeakRequests_write : portReady State.reset ∧ (leakFieldsOf leakBytes).isSome = true ∧
    State.reset.lvs.level = .configure ∧ (7 : Byte).toNat = (7 : Fin 8) ∧ nat16 0x7F 0xFF ≠ 0 ∧ (0x7F : Byte).getLsbD 7 = false ∧
    ((leakFieldsOf leakBytes).all fun f => f.enabled.toNat ≤ 1 && f.kind.toNat ≤ 1 && f.zoneSet != 0 && f.policy.toNat ≤ 2 &&
      f.openPolicy.toNat ≤ 1 && f.pulseWidth.toNat ≤ 1) = true ∧
    ((leakFieldsOf (List.replicate 22 9)).any fun f => (nat16 0x7F 0xFF).testBit 0 && 1 < f.enabled.toNat) = true ∧
    State.reset.lvs.commit = none ∧ (0x80 : Byte).getLsbD 7 = true := by unfold portReady; decide +kernel

/-- Channel 7 in a state. -/
def withLeak (st : LeakState) (prior : Bool) : State :=
  { live with lkm := { live.lkm with channels := live.lkm.channels.set 7 { live.channel 7 with state := st, priorWet := prior } } }

theorem witness_LeakRequests_ack : portReady (withLeak .latched false) ∧ ((withLeak .latched false).channel 7).state = .latched ∧
    ((withLeak .confirmed false).channel 7).state = .confirmed ∧ ((withLeak .openFault true).channel 7).priorWet = true ∧
    ((withLeak .openFault false).channel 7).priorWet = false ∧ (live.channel 7).state = .disabled := by
  unfold portReady; decide +kernel

/-! ## Witnesses: rectifier requests and the Unit Link -/

theorem witness_RectifierRequests : portReady busy ∧ CapacityOk busy ∧ 6 ≤ (6 : Byte).toNat ∧ (5 : Byte).toNat = (5 : Fin 6) ∧
    (busy.rect 2).state = .online ∧ busy.roomInQ1 = true ∧ busy.capacityWithout 2 < busy.ldm.pComm ∧
    (busy.rect 5).state = .absent ∧ ((retrying .due).rect 5).state = .faulted ∧ CapacityOk (retrying .due) ∧
    portReady (retrying .due) ∧ CapacityOk (withRect 5 (fun r => { r with state := .lockedOut, adminDisabled := true }) live) ∧
    CapacityOk (withRect 5 (fun r => { r with state := .standby }) live) := by
  unfold portReady CapacityOk; decide +kernel

/-- A POWER ON call for slot 7 with the tries `n`. -/
def powerOn7 (n : Nat) : CommandRecord := ⟨.slot 7, .powerOn, none, .ldm, n, false⟩

theorem witness_CommandOutcomes_more :
    let off : CommandRecord := ⟨.slot 7, .powerOff, none, .ldm, 2, false⟩
    (withLine .wait (.command (powerOn7 1)) overloaded).ulc.isQueued (isPowerFor 7) = true ∧
    off.target = .slot 7 ∧ live.cfg.cmdRetries ≤ off.tries ∧
    unanswered (withLine .wait (.command off) live) (.command off) .responseTimeout ∧
    (withLine .answer (.command off) live).ulc.line = .answer ∧
    (withPlan .awaiting overloaded).seq.step = some ⟨[7], 100, .ready, 5000, .skip⟩ :=
  ⟨by decide +kernel, rfl, by decide +kernel, .inl ⟨rfl, rfl⟩, rfl, by decide +kernel⟩

theorem witness_CommandOutcomes :
    let s := withLine .answer (.command (powerOn7 2)) overloaded
    s.ulc.transaction = some (.command (powerOn7 2)) ∧
    (Transaction.command (powerOn7 2)).judge (answer 0x27 0xA1 []) = .good ⟨0x27, 0xA1, []⟩ ∧
    (Transaction.command (powerOn7 2)).judge (answer 0x28 0xA0 []) = .bad ∧ (powerOn7 1).tries < s.cfg.cmdRetries ∧
    (withLine .wait (.command (powerOn7 1)) live).superseded (powerOn7 1) = false ∧ s.cfg.cmdRetries ≤ (powerOn7 2).tries ∧
    (s.slot 7).state = .energizing ∧ unanswered s (.command (powerOn7 2)) .answerGapTimeout ∧
    unanswered (withLine .wait (.command (powerOn7 1)) live) (.command (powerOn7 1)) .responseTimeout :=
  ⟨rfl, by decide +kernel, by decide +kernel, by decide +kernel, by decide +kernel, by decide +kernel, by decide +kernel,
    .inr (.inl ⟨rfl, rfl⟩), .inl ⟨rfl, rfl⟩⟩

/-- A TEST_LOAD ON and a MODULE call's record on the line, being answered. -/
theorem witness_ModuleAndTestCallOutcomes :
    let on : CommandRecord := ⟨.battery 1, .testLoadOn, some 200, .bmn, 2, false⟩
    let en : CommandRecord := ⟨.rectifier 5, .enable, none, .rsv, 2, true⟩
    callAcked (withLine .answer (.command on) (testing .loading 0 0 0)) on (.answerComplete (answer 0x19 0xA0 [])) ∧
    callFails (withLine .answer (.command on) (testing .closing 0 0 0)) on (.answerComplete (answer 0x19 0xA1 [])) 0 ∧
    callFails (withLine .wait (.command on) live) on .responseTimeout 1 ∧
    callAcked (withLine .answer (.command en) (retrying .enabling)) en (.answerComplete (answer 0x15 0xA0 [])) ∧
    callFails (withLine .wait (.command en) (retrying .enabling)) en .responseTimeout 1 ∧ CapacityOk (retrying .enabling) ∧
    ((retrying .enabling).rect 5).retryPhase = some .enabling ∧ (testing .loading 0 0 0).bmn.test.module = some 1 :=
  ⟨⟨rfl, rfl, _, ⟨0x19, 0xA0, []⟩, rfl, by decide +kernel, rfl⟩, ⟨rfl, .inl ⟨rfl, rfl, _, ⟨0x19, 0xA1, []⟩, rfl, by decide +kernel, rfl⟩⟩,
    ⟨rfl, .inr ⟨rfl, .inl ⟨rfl, rfl⟩, by decide +kernel⟩⟩, ⟨rfl, rfl, _, ⟨0x15, 0xA0, []⟩, rfl, by decide +kernel, rfl⟩,
    ⟨rfl, .inr ⟨rfl, .inl ⟨rfl, rfl⟩, by decide +kernel⟩⟩, by unfold CapacityOk; decide +kernel, by decide +kernel, by decide⟩

theorem witness_LineEvents : live.ulc.line = .idle ∧ (withLine .call (.discovery (.slot 0)) live).ulc.line = .call ∧
    (withLine .call (.pass 0 [1]) live).ulc.transaction = some (.pass 0 [1]) ∧ State.reset.ulc.line = .guarded ∧
    (withLine .wait (.discovery (.slot 0)) live).ulc.line = .wait ∧ live.ulc.jabberPosted = false ∧
    ({ live.ulc with jabberPosted := true } : Ulc).jabberPosted = true ∧
    ({ live.mgp with pending := .deferred ⟨0x25, 1, [0, 1]⟩ } : Mgp).pending = .deferred ⟨0x25, 1, [0, 1]⟩ := by decide +kernel

theorem witness_UnitBecomesPresent :
    let s := fun p : Presence => withLine .answer (.discovery (.slot 47)) (withUnit (.slot 47) p none 0 live)
    (s .unknown).ulc.line = .answer ∧ isStatusOf (.slot 47) (.discovery (.slot 47)) ∧ isStatusOf (.battery 3) (.poll (.battery 3) true) ∧
    (Transaction.discovery (.slot 47)).judge (answer 0x4F 0x83 [2, 1, 0]) = .good ⟨0x4F, 0x83, [2, 1, 0]⟩ ∧
    (Transaction.poll (.rectifier 5) true).judge (answer 0x15 0x81 [1, 0, 16]) = .good ⟨0x15, 0x81, [1, 0, 16]⟩ ∧
    (Transaction.poll (.battery 3) true).judge (answer 0x1B 0x82 [100, 7]) = .good ⟨0x1B, 0x82, [100, 7]⟩ ∧
    (s .unknown).presence (.slot 47) = .unknown ∧ (s .missing).presence (.slot 47) = .missing ∧
    (s .quiet).presence (.slot 47) = .quiet ∧ (2 : Byte).toNat = UnitPower.ready.ctorIdx ∧ (live.slot 47).state = .vacant ∧
    (live.rect 5).state = .absent :=
  ⟨rfl, .inr rfl, .inl ⟨true, rfl⟩, by decide +kernel⟩

/-- Discovery at its `k`-th unit. -/
def discovering (k : Nat) (l : LineState) (x : UnitId) : State :=
  let s := withLine l (.discovery x) live
  { s with ulc := { s.ulc with discovery := some k } }

theorem witness_DiscoveryAdvances :
    (let s := { live with ulc := { live.ulc with discovery := some 57 } }
    s.ulc.line = .idle ∧ allUnits[57]? = some (.slot 47) ∧ s.isQuiet (.slot 47) = false ∧ s.ulc.cycleRunning = false ∧
      s.ulc.startPending = false ∧ s.ulc.q0 = [] ∧ s.ulc.q1 = [] ∧ s.ulc.pass = none) ∧
    unanswered (discovering 0 .wait (.rectifier 0)) (.discovery (.rectifier 0)) .responseTimeout ∧
    (discovering 0 .wait (.rectifier 0)).ulc.discovery = some 0 ∧ allUnits[1]? = some (.rectifier 1) ∧
    (discovering 0 .wait (.rectifier 0)).presence (.rectifier 0) = .unknown ∧
    ((discovering 0 .wait (.rectifier 0)).ulc.units.get (.rectifier 0)).misses < 2 ∧
    allUnits[58]? = none ∧ (discovering 57 .answer (.slot 47)).ulc.line = .answer :=
  ⟨by decide +kernel, .inl ⟨rfl, rfl⟩, by decide +kernel⟩

theorem witness_FramesAreReadAsSent :
    portReads (sent ⟨2, 9, [1]⟩) (requestFrame ⟨2, 9, [1]⟩) ∧ (240 < (241 : Byte).toNat) ∧
    portReads ([0xA5, 241].map (portChar true)) [0xA5, 241] ∧ bitValue (portChar false 9).start = false ∧
    bitValue (portChar false 9).stop = false ∧ bitValue ⟨true, true, false⟩ = true ∧
    ((0 : Byte) ++ (0 : Byte) ≠ crc16 [0, 1, 2]) ∧
    portReads ([0xA5, 0, 1, 2, 0, 0].map (portChar true)) [0xA5, 0, 1, 2, 0, 0] ∧
    (let body : List Byte := [0x27, 0xA0, 0]
    lineReads (answer 0x27 0xA0 []) (body ++ [crc8 body])) := by
  unfold portReads lineReads; decide +kernel

/-- The slot 47 polled with `n` misses before, in a line state. -/
def polled47 (l : LineState) (n : Nat) : State :=
  withLine l (.poll (.slot 47) true) (withUnit (.slot 47) .present none n live)

theorem witness_PollsMissed :
    (polled47 .wait 1).ulc.transaction = some (.poll (.slot 47) true) ∧ (polled47 .wait 1).presence (.slot 47) = .present ∧
    unanswered (polled47 .wait 1) (.poll (.slot 47) true) .responseTimeout ∧
    ((polled47 .wait 1).ulc.units.get (.slot 47)).misses < 2 ∧ 2 ≤ ((polled47 .answer 2).ulc.units.get (.slot 47)).misses ∧
    (polled47 .answer 2).ulc.line = .answer :=
  ⟨rfl, by decide +kernel, .inl ⟨rfl, rfl⟩, by decide +kernel, by decide +kernel, rfl⟩

theorem witness_GrantsAndCycles_grant : State.reset.ulc.line ≠ .idle ∧ arbiterReady live ∧ arbiterReady busy ∧
    busy.ulc.q0 = [⟨.slot 9, .powerOff, none, .ldm, 0, false⟩] ∧ live.ulc.q0 = [] ∧ live.cfg.arbiterStrategy = .scheduleFirst ∧
    ({ live.ulc with cycleRunning := true } : Ulc).passOver live.cfg.pollTable = none ∧
    live.cfg.pollTable[live.ulc.cursor]? = some (.unit (.rectifier 0)) ∧ live.ulc.q1 = [] ∧ live.ulc.pass = none := by
  unfold arbiterReady; decide +kernel

theorem witness_GrantsAndCycles_cycle : live.ulc.cycleTimer = none ∧
    ({ live.ulc with cycleTimer := some 0 } : Ulc).cycleTimer ≠ none ∧ live.ulc.cycleRunning = false ∧
    live.cfg.pollTable[0]? = some (.unit (.rectifier 0)) ∧ live.isQuiet (.rectifier 0) = false ∧
    (calling .wait ⟨0x10, 0x1F⟩).ulc.cycleRunning = true ∧ (calling .wait ⟨0x10, 0x1F⟩).ulc.cycleTimer ≠ none ∧
    PollOk (calling .wait ⟨0x10, 0x1F⟩) :=
  ⟨by decide +kernel, by decide +kernel, by decide +kernel, by decide +kernel, by decide +kernel, rfl, by decide +kernel,
    calling_pollOk .wait⟩

theorem witness_EventRounds_call : PollOk (calling .answer ⟨0x10, 0x1F⟩) ∧ PollOk (calling .wait ⟨0x10, 0x1F⟩) ∧
    (calling .answer ⟨0x10, 0x1F⟩).ulc.quietRange ⟨0x10, 0x17⟩ = false ∧
    (calling .wait ⟨0x10, 0x1F⟩).ulc.quietRange ⟨0x20, 0x2F⟩ = false ∧
    (withUnit (.slot 7) .quiet none 0 live).ulc.quietRange ⟨0x27, 0x27⟩ = true :=
  ⟨calling_pollOk .answer, calling_pollOk .wait, by decide +kernel, by decide +kernel, by decide +kernel⟩

theorem witness_EventRounds :
    let read := withLine .answer (.eventRead (.slot 7) true) live
    (calling .answer ⟨0x10, 0x1F⟩).ulc.transaction = some (.eventCall ⟨0x10, 0x1F⟩ true) ∧
    (Transaction.eventCall ⟨0x27, 0x27⟩ true).judge (answer 0x28 0x88 []) = .bad ∧
    (Transaction.eventCall ⟨0x20, 0x2F⟩ true).judge (answer 0x27 0x90 []) = .good ⟨0x27, 0x90, []⟩ ∧
    UnitId.ofAddress 0x27 = some (.slot 7) ∧ live.isQuiet (.slot 7) = false ∧
    (calling .wait ⟨0x10, 0x1F⟩).ulc.stack = [⟨0x20, 0x2F⟩, ⟨0x30, 0x4F⟩] ∧ read.ulc.line = .answer ∧
    (Transaction.eventRead (.slot 7) true).judge (answer 0x27 0x91 [3, 1, 2, 3, 4]) = .good ⟨0x27, 0x91, [3, 1, 2, 3, 4]⟩ ∧
    (Transaction.eventRead (.slot 7) true).judge (answer 0x28 0x91 [3, 1, 2, 3, 4]) = .bad := by decide +kernel

theorem witness_PassThroughHandled : portReady live ∧ UnitId.ofAddress (0x50 : Byte).toNat = none ∧
    UnitId.ofAddress (0x4F : Byte).toNat = some (.slot 47) ∧ live.isQuiet (.slot 47) = false ∧
    (withUnit (.slot 47) .quiet (some .present) 0 live).isQuiet (.slot 47) = true ∧
    ({ live.ulc with pass := some ⟨0, [], false, some 0⟩ } : Ulc).pass = some ⟨0, [], false, some 0⟩ := by
  unfold portReady; decide +kernel

/-- A granted pass-through of two bytes to slot 47, its request deferred. -/
def passing (l : LineState) : State :=
  let s := withLine l (.pass 0x4F [1, 2]) live
  { s with
    ulc := { s.ulc with pass := some ⟨0x4F, [1, 2], true, none⟩ }
    mgp := { s.mgp with pending := .deferred ⟨0x25, 5, [0x4F, 1, 2]⟩ } }

theorem witness_PassThroughHandled_ends :
    (passing .answer).ulc.pass = some ⟨0x4F, [1, 2], true, none⟩ ∧
    (passing .answer).mgp.pending = .deferred ⟨0x25, 5, [0x4F, 1, 2]⟩ ∧
    (passing .wait).ulc.transaction = some (.pass 0x4F [1, 2]) ∧ (passing .wait).ulc.line = .wait ∧
    (passing .answer).ulc.line = .answer ∧ UnitId.ofAddress 0x4F = some (.slot 47) ∧
    (Transaction.pass 0x4F [1, 2]).judge (answer 0x4F 0xA0 []) = .good ⟨0x4F, 0xA0, []⟩ ∧
    (Transaction.pass 0x4F [1, 2]).judge (answer 0x20 0xA0 []) = .bad := by decide +kernel

theorem witness_LinkRequests : portReady State.reset ∧ State.reset.lvs.level = .configure ∧ live.lvs.level = .supervise ∧
    pollEntriesOf [0x4F, 0] = some [.unit (.slot 47), .eventRound] ∧ pollEntriesOf [0x50] = none ∧
    (64 < (List.replicate 65 (0 : Byte)).length) ∧ State.reset.lvs.commit = none ∧
    ((withUnit (.slot 47) .quiet (some .missing) 0 live).ulc.units.get (.slot 47)).prior = some .missing ∧
    live.presence (.slot 47) ≠ .quiet ∧
    (withLine .wait (.command (powerOn7 1)) live).ulc.transaction = some (.command (powerOn7 1)) := by
  unfold portReady; decide +kernel

/-! ## Witnesses: the Management Port, levels and settings -/

theorem witness_PortEvents : live.mgp.crcDiscards ≤ 65535 ∧ (240 < (241 : Byte).toNat) ∧ ((0 : Byte) ++ (0 : Byte) ≠ crc16 [0, 1, 2]) ∧
    portReads ([241].map (portChar true)) [241] ∧ requestOf (.identify 9 []) = some ⟨1, 9, []⟩ ∧
    [0xA5, 0] ++ (requestFrame ⟨1, 9, []⟩).drop 2 = requestFrame ⟨1, 9, []⟩ ∧
    portReads ((sent ⟨1, 9, []⟩).drop 2) ((requestFrame ⟨1, 9, []⟩).drop 2) ∧
    ({ live.mgp with assembly := [0xA5] } : Mgp).assembly ++ [241] = [0xA5, 241] ∧
    portReads ([2, 0, 0].map (portChar true)) [2, 0, 0] ∧ ([0xA5, 0, 1] ++ [2, 0, 0] : List Byte) = 0xA5 :: 0 :: 1 :: 2 :: [] ++ [0, 0] ∧
    bitValue (portChar false 9).stop = false ∧
    ({ live.mgp with pending := .waiting ⟨1, 0, []⟩ } : Mgp).pending ≠ .free ∧ live.mgp.pending = .free ∧
    live.mgp.silenceTimer = none ∧ ({ live.mgp with silenceTimer := some 0 } : Mgp).silenceTimer ≠ none := by
  unfold portReads; decide +kernel

/-- A reply being sent while a request waits. -/
def replying : State := { live with mgp := { live.mgp with reply := some [0xA5], pending := .waiting ⟨0x01, 5, []⟩ } }

theorem witness_RequestsTakenInTurn : requestOf (.identify 5 []) = some ⟨0x01, 5, []⟩ ∧
    replying.mgp.pending = .waiting ⟨0x01, 5, []⟩ ∧ replying.mgp.reply ≠ none ∧ replying.mgp.restartDue = false ∧
    replying.mgp.bitRate = replying.cfg.mgmtBitRate ∧ replying.mgp.assembly = [] ∧ live.mgp.pending = .free ∧
    portReady live ∧ requestOf (.unknownKind 0x27 5 []) = some ⟨0x27, 5, []⟩ ∧ acceptsLength 0x26 2 = false := by
  unfold portReady; decide +kernel

theorem witness_RefusedRequestsChangeNothing : requestOf (.fetchNotices 5 [17]) = some ⟨0x26, 5, [17]⟩ ∧ portReady live ∧
    (0x26 : Byte) ≠ 0 ∧ (0x26 : Byte).toNat ≤ 0x26 := by unfold portReady; decide +kernel

theorem witness_ReadRequests : portReady live ∧ SettingKey.find 36 0 = some .startLevel ∧
    SettingKey.find 4 5 = some (.rectifierRating 5) ∧ (47 : Byte).toNat = (47 : Fin 48) ∧ (5 : Byte).toNat = (5 : Fin 6) ∧
    (3 : Byte).toNat = (3 : Fin 4) ∧ (7 : Byte).toNat = (7 : Fin 8) ∧ UnitId.ofAddress (0x4F : Byte).toNat = some (.slot 47) ∧
    ((heard live).planView 0).isSome = true := by unfold portReady; decide +kernel

theorem witness_NoticesFetched : portReady busy ∧ (16 < (17 : Byte).toNat) ∧ (16 : Byte) ≠ 0 ∧ (16 : Byte).toNat ≤ 16 ∧
    (1 : Nat) ≤ (heard busy).nq.notices.length := by unfold portReady; decide +kernel

theorem witness_LevelsAndSettings : portReady live ∧ portReady State.reset ∧ State.reset.lvs.startingUp = true ∧
    live.lvs.startingUp = false ∧ live.lvs.level.ctorIdx = (1 : Byte).toNat ∧ (1 < (2 : Byte).toNat) ∧
    SettingKey.find 34 0 = some .mgmtBitRate ∧ [(3 : Byte)].length = SettingKey.mgmtBitRate.width ∧
    SettingKey.mgmtBitRate.range.structural = false ∧ SettingKey.linkDivN.range.structural = true ∧
    SettingKey.mgmtBitRate.range.list = true ∧ SettingKey.mgmtBitRate.inList 4 = false ∧ SettingKey.mgmtBitRate.inList 3 = true ∧
    live.lvs.commit = none := by unfold portReady; decide +kernel

theorem witness_CommitAndRevert : portReady live ∧ live.lvs.commit = none ∧ live.lvs.image = none ∧
    ({ live.lvs with image := some .default } : Lvs).image = some .default ∧
    ({ live.lvs with commit := some ⟨.default, true⟩ } : Lvs).commit = some ⟨.default, true⟩ := by
  unfold portReady; decide +kernel

theorem witness_WarmRestart : portReady live ∧ portReady State.reset ∧ State.reset.lvs.startingUp = true ∧
    live.lvs.startingUp = false ∧ live.brc.state = .grid ∧ live.lvs.commit = none ∧
    ({ replying.mgp with restartDue := true } : Mgp).reply ≠ none ∧ live.lvs.image = none ∧
    live.ulc.q1.any (isPowerOnFor 7) = false ∧ live.bmn.test.module = none ∧
    (let s := { overloaded with mgp := { replying.mgp with restartDue := true } }
    ZonesOk s ∧ s.mgp.reply ≠ none ∧ s.ulc.q1.any (isPowerOnFor 7) = true ∧ (s.slot 7).state = .energizing) := by
  unfold portReady ZonesOk; decide +kernel

end Sys2Proof.Tests
end

section
/-! SUPPORT. Handlers: what the handlers of the host requests can change, one lemma each in the terms of `Acts`. Every
handler but FETCH_NOTICES posts notices only; FETCH_NOTICES alone takes notices out. -/
namespace Sys2Proof.Laws
open Sys2Proof.Machine Sys2Proof.Safety

/-! ## Answers and the shapes of a payload (R182) -/

theorem answer_acts (bs : List Block) (r : Response) (s : State) : Acts bs s (answer r s).2 := .refl _ _

theorem badLength_acts (bs : List Block) (s : State) : Acts bs s (badLength s).2 := .refl _ _

theorem outOfRange_acts (bs : List Block) (s : State) : Acts bs s (outOfRange s).2 := .refl _ _

/-- A request that names one thing changes what its handler changes for that thing. -/
theorem naming_acts {bs : List Block} {n : Nat} {f : Fin n → State → Option Response × State}
    (h : ∀ k s, Acts bs s (f k s).2) (payload : List Byte) (s : State) : Acts bs s (naming n f payload s).2 := by
  unfold naming
  split
  · split
    · exact h _ s
    · exact outOfRange_acts _ s
  · exact badLength_acts _ s

/-- A request without a payload changes what its handler changes. -/
theorem bare_acts {bs : List Block} {f : State → Option Response × State}
    (h : ∀ s, Acts bs s (f s).2) (payload : List Byte) (s : State) : Acts bs s (bare f payload s).2 := by
  unfold bare
  split
  · exact h s
  · exact badLength_acts _ s

/-- A request that names a unit by its address changes what its handler changes for that unit. -/
theorem addressing_acts {bs : List Block} {f : UnitId → State → Option Response × State}
    (h : ∀ x s, Acts bs s (f x s).2) (payload : List Byte) (s : State) : Acts bs s (addressing f payload s).2 := by
  unfold addressing
  split
  · split
    · exact h _ s
    · exact outOfRange_acts _ s
  · exact badLength_acts _ s

/-! ## Identity, status, levels and settings -/

theorem doIdentify_acts (p : List Byte) (s : State) : Acts [] s (doIdentify p s).2 :=
  bare_acts (fun _ => answer_acts ..) p s

theorem doGetStatus_acts (p : List Byte) (s : State) : Acts [.mgp, .ulc] s (doGetStatus p s).2 := by
  refine bare_acts (fun s => ?_) p s
  dsimp only
  exact (mapUlc_acts ..).and (mapMgp_acts ..)

theorem doReadEstimate_acts (p : List Byte) (s : State) : Acts [] s (doReadEstimate p s).2 :=
  bare_acts (fun _ => answer_acts ..) p s

theorem doSetLevel_acts (p : List Byte) (s : State) : Acts [.lvs, .seq, .ulc] s (doSetLevel p s).2 := by
  unfold doSetLevel
  repeat' (first
    | with_reducible exact answer_acts ..
    | with_reducible exact outOfRange_acts ..
    | with_reducible exact badLength_acts ..
    | with_reducible exact enterLevel_acts ..
    | split)

theorem doReadSetting_acts (p : List Byte) (s : State) : Acts [] s (doReadSetting p s).2 := by
  unfold doReadSetting
  repeat' (first
    | with_reducible exact answer_acts ..
    | with_reducible exact outOfRange_acts ..
    | with_reducible exact badLength_acts ..
    | split)

/-- An accepted setting takes effect and sets the settings-dirty flag (R194). -/
theorem writeSetting_acts (k : SettingKey) (v : Nat) (s : State) :
    Acts [.lvs, .acm, .rsv, .bmn, .brc, .ldm, .seq, .ulc] s (writeSetting k v s).2 := by
  unfold writeSetting
  repeat' (first
    | with_reducible exact answer_acts ..
    | with_reducible exact outOfRange_acts ..
    | with_reducible exact (applySetting_acts ..).and (markDirty_acts _)
    | split)

theorem doWriteSetting_acts (p : List Byte) (s : State) :
    Acts [.lvs, .acm, .rsv, .bmn, .brc, .ldm, .seq, .ulc] s (doWriteSetting p s).2 := by
  unfold doWriteSetting
  repeat' (first
    | with_reducible exact outOfRange_acts ..
    | with_reducible exact badLength_acts ..
    | with_reducible exact writeSetting_acts ..
    | split)

theorem doCommitSettings_acts (p : List Byte) (s : State) : Acts [.lvs] s (doCommitSettings p s).2 := by
  refine bare_acts (fun s => ?_) p s
  split
  · exact answer_acts ..
  · exact beginCommit_acts s

theorem doRevertSettings_acts (p : List Byte) (s : State) :
    Acts [.lvs, .acm, .rsv, .bmn, .brc, .ldm, .seq, .lkm, .ulc] s (doRevertSettings p s).2 := by
  refine bare_acts (fun s => ?_) p s
  repeat' (first
    | with_reducible exact answer_acts ..
    | with_reducible exact reload_acts ..
    | split)

theorem doRestart_acts (p : List Byte) (s : State) : Acts [.mgp] s (doRestart p s).2 := by
  refine bare_acts (fun s => ?_) p s
  repeat' (first
    | with_reducible exact answer_acts ..
    | with_reducible exact mapMgp_acts ..
    | split)

/-! ## Slots and zones -/

theorem doReadSlot_acts (p : List Byte) (s : State) : Acts [] s (doReadSlot p s).2 :=
  naming_acts (fun _ _ => answer_acts ..) p s

theorem doWriteSlot_acts (p : List Byte) (s : State) : Acts [.ldm, .seq, .ulc, .lvs] s (doWriteSlot p s).2 := by
  unfold doWriteSlot
  dsimp only
  repeat' (first
    | with_reducible exact answer_acts ..
    | with_reducible exact outOfRange_acts ..
    | with_reducible exact badLength_acts ..
    | with_reducible exact (applySlot_acts ..).and (markDirty_acts _)
    | split)

/-- SLOT_POWER OFF changes the slot's record and the queues (R16). -/
theorem hostPowerOff_acts (n : Fin 48) (s : State) : Acts [.ldm, .seq, .ulc] s (hostPowerOff n s).2 := by
  unfold hostPowerOff
  split
  · exact (mapSlot_acts ..).and (placePower_acts ..)
  · exact (mapSlot_acts ..).and (placePower_acts ..)
  · exact ((mapSlot_acts ..).and (bs := [.ldm]) (cs := [.ldm, .seq]) (leaveRestoreList_acts ..)).and (placePower_acts ..)
  all_goals exact answer_acts ..

/-- SLOT_POWER ON is an admission (R13, R15). -/
theorem hostPowerOn_acts (n : Fin 48) (s : State) : Acts [.brc, .ldm, .seq, .ulc] s (hostPowerOn n s).2 := by
  unfold hostPowerOn
  split
  · next h => exact admitSlot_acts h
  · exact answer_acts ..

theorem doSlotPower_acts (p : List Byte) (s : State) : Acts [.brc, .ldm, .seq, .ulc] s (doSlotPower p s).2 := by
  unfold doSlotPower
  split
  · split
    · exact hostPowerOn_acts ..
    · exact (hostPowerOff_acts ..).up
    · exact outOfRange_acts ..
  · exact badLength_acts ..

theorem doSlotClear_acts (p : List Byte) (s : State) : Acts [.ldm, .seq] s (doSlotClear p s).2 := by
  refine naming_acts (fun n s => ?_) p s
  split
  · dsimp only
    exact mapSlot_acts ..
  · dsimp only
    exact (mapSlot_acts ..).and (leaveRestoreList_acts ..)
  · exact answer_acts ..

theorem doReadZones_acts (p : List Byte) (s : State) : Acts [] s (doReadZones p s).2 :=
  bare_acts (fun _ => answer_acts ..) p s

theorem doZoneRelease_acts (p : List Byte) (s : State) : Acts [.ldm, .seq] s (doZoneRelease p s).2 := by
  refine naming_acts (fun z s => ?_) p s
  repeat' (first
    | with_reducible exact answer_acts ..
    | with_reducible exact releaseZone_acts ..
    | split)

/-! ## Plans -/

theorem doPlanBegin_acts (p : List Byte) (s : State) : Acts [.lvs, .seq] s (doPlanBegin p s).2 := by
  unfold doPlanBegin
  dsimp only
  repeat' (first
    | with_reducible exact answer_acts ..
    | with_reducible exact outOfRange_acts ..
    | with_reducible exact badLength_acts ..
    | with_reducible exact (mapSeq_acts ..).up
    | with_reducible exact (mapLvs_acts ..).and (markDirty_acts _)
    | split)

theorem doPlanSteps_acts (p : List Byte) (s : State) : Acts [.lvs, .seq] s (doPlanSteps p s).2 := by
  unfold doPlanSteps
  dsimp only
  repeat' (first
    | with_reducible exact answer_acts ..
    | with_reducible exact outOfRange_acts ..
    | with_reducible exact badLength_acts ..
    | with_reducible exact (mapSeq_acts ..).up
    | with_reducible exact (mapLvs_acts ..).and (markDirty_acts _)
    | split)

/-- PLAN_START promotes the staged plan or sets start pending (R120). -/
theorem planStart_acts (s : State) : Acts [.seq] s (planStart s).2 := by
  unfold planStart
  repeat' (first
    | with_reducible exact .refl ..
    | with_reducible exact promote_acts ..
    | with_reducible exact mapSeq_acts ..
    | split)

/-- PLAN_PAUSE acts on the sequencer alone (R129). -/
theorem planPause_acts (s : State) : Acts [.seq] s (planPause s).2 := by
  unfold planPause
  repeat' (first
    | with_reducible exact .refl ..
    | with_reducible exact mapSeq_acts ..
    | with_reducible exact (mapRestore_acts ..).trans (mapSeq_acts ..)
    | split)

/-- PLAN_RESUME can attempt a held admission again (R130). -/
theorem planResume_acts (s : State) : Acts [.brc, .ldm, .seq, .ulc] s (planResume s).2 := by
  unfold planResume
  repeat' (first
    | with_reducible exact .refl ..
    | with_reducible exact resumeTo_acts ..
    | with_reducible exact reattempt_acts ..
    | with_reducible exact (enterSettling_acts ..).up
    | with_reducible exact (mapRestore_acts ..).and (mapSeq_acts ..)
    | split)

theorem doPlanStart_acts (p : List Byte) (s : State) : Acts [.seq] s (doPlanStart p s).2 :=
  bare_acts planStart_acts p s

theorem doPlanPause_acts (p : List Byte) (s : State) : Acts [.seq] s (doPlanPause p s).2 :=
  bare_acts planPause_acts p s

theorem doPlanResume_acts (p : List Byte) (s : State) : Acts [.brc, .ldm, .seq, .ulc] s (doPlanResume p s).2 :=
  bare_acts planResume_acts p s

theorem doPlanCancel_acts (p : List Byte) (s : State) : Acts [.ldm, .seq, .ulc] s (doPlanCancel p s).2 :=
  bare_acts planCancel_acts p s

theorem doReadPlan_acts (p : List Byte) (s : State) : Acts [] s (doReadPlan p s).2 := by
  unfold doReadPlan
  repeat' (first
    | with_reducible exact answer_acts ..
    | with_reducible exact outOfRange_acts ..
    | with_reducible exact badLength_acts ..
    | split)

/-! ## Rectifiers and batteries -/

theorem doReadRectifier_acts (p : List Byte) (s : State) : Acts [] s (doReadRectifier p s).2 :=
  naming_acts (fun _ _ => answer_acts ..) p s

theorem doRectifierEnable_acts (p : List Byte) (s : State) : Acts [.rsv, .ldm, .seq, .ulc] s (doRectifierEnable p s).2 := by
  refine naming_acts (fun k s => ?_) p s
  dsimp only
  repeat' (first
    | with_reducible exact answer_acts ..
    | with_reducible exact (mapRect_acts ..).up
    | with_reducible exact (mapRect_acts ..).and (placeModuleCall_acts ..)
    | split)

theorem doRectifierDisable_acts (p : List Byte) (s : State) : Acts [.rsv, .ldm, .seq, .ulc] s (doRectifierDisable p s).2 := by
  refine naming_acts (fun k s => ?_) p s
  repeat' (first
    | with_reducible exact answer_acts ..
    | with_reducible exact disableRect_acts ..
    | split)

/-- A clear that enables the module places the ENABLE where Q1 has room (R45). -/
theorem clearEnable_acts (k : Fin 6) (s : State) : Acts [.rsv, .ldm, .seq, .ulc] s (clearEnable k s).2 := by
  unfold clearEnable
  split
  · exact (mapRect_acts ..).and (placeModuleCall_acts ..)
  · exact answer_acts ..

theorem doRectifierClear_acts (p : List Byte) (s : State) : Acts [.rsv, .ldm, .seq, .ulc] s (doRectifierClear p s).2 := by
  refine naming_acts (fun k s => ?_) p s
  dsimp only
  repeat' (first
    | with_reducible exact clearEnable_acts ..
    | with_reducible exact (mapRect_acts ..).up
    | split)

theorem doReadBattery_acts (p : List Byte) (s : State) : Acts [] s (doReadBattery p s).2 :=
  naming_acts (fun _ _ => answer_acts ..) p s

theorem doStartImpedanceTest_acts (p : List Byte) (s : State) : Acts [.bmn] s (doStartImpedanceTest p s).2 := by
  refine naming_acts (fun i s => ?_) p s
  repeat' (first
    | with_reducible exact answer_acts ..
    | with_reducible exact beginTest_acts ..
    | split)

/-! ## Leak channels -/

theorem doReadLeak_acts (p : List Byte) (s : State) : Acts [] s (doReadLeak p s).2 :=
  naming_acts (fun _ _ => answer_acts ..) p s

/-- An accepted WRITE_LEAK takes effect and sets the settings-dirty flag (R139). -/
theorem writeLeak_acts (c : Fin 8) (mask : Nat) (f : LeakFields) (s : State) :
    Acts [.lvs, .ldm, .seq, .lkm, .ulc] s (writeLeak c mask f s).2 := by
  unfold writeLeak
  dsimp only
  repeat' (first
    | with_reducible exact answer_acts ..
    | with_reducible exact outOfRange_acts ..
    | with_reducible exact (applyLeak_acts ..).and (markDirty_acts _)
    | split)

theorem doWriteLeak_acts (p : List Byte) (s : State) : Acts [.lvs, .ldm, .seq, .lkm, .ulc] s (doWriteLeak p s).2 := by
  unfold doWriteLeak
  dsimp only
  repeat' (first
    | with_reducible exact answer_acts ..
    | with_reducible exact outOfRange_acts ..
    | with_reducible exact badLength_acts ..
    | with_reducible exact writeLeak_acts ..
    | split)

/-- LEAK_ACK acknowledges by the channel's state (R147). -/
theorem leakAck_acts (c : Fin 8) (s : State) : Acts [.ldm, .seq, .lkm, .ulc] s (leakAck c s).2 := by
  unfold leakAck
  dsimp only
  repeat' (first
    | with_reducible exact .refl ..
    | with_reducible exact putChannel_acts ..
    | split)

theorem doLeakAck_acts (p : List Byte) (s : State) : Acts [.ldm, .seq, .lkm, .ulc] s (doLeakAck p s).2 :=
  naming_acts leakAck_acts p s

/-! ## The Unit Link -/

theorem doReadPollTable_acts (p : List Byte) (s : State) : Acts [] s (doReadPollTable p s).2 :=
  bare_acts (fun _ => answer_acts ..) p s

theorem doWritePollTable_acts (p : List Byte) (s : State) : Acts [.lvs, .ulc] s (doWritePollTable p s).2 := by
  unfold doWritePollTable
  repeat' (first
    | with_reducible exact answer_acts ..
    | with_reducible exact outOfRange_acts ..
    | with_reducible exact badLength_acts ..
    | with_reducible exact (applyPollTable_acts ..).and (markDirty_acts _)
    | split)

theorem doReadUnit_acts (p : List Byte) (s : State) : Acts [] s (doReadUnit p s).2 :=
  addressing_acts (fun _ _ => answer_acts ..) p s

theorem doUnitUnquiet_acts (p : List Byte) (s : State) : Acts [.ulc] s (doUnitUnquiet p s).2 := by
  refine addressing_acts (fun x s => ?_) p s
  split
  · exact unquiet_acts x s
  · exact answer_acts ..

theorem doLinkReset_acts (p : List Byte) (s : State) : Acts [.rsv, .bmn, .ldm, .seq, .ulc] s (doLinkReset p s).2 := by
  refine bare_acts (fun s => ?_) p s
  exact linkReset_acts s

theorem doPassThrough_acts (p : List Byte) (s : State) : Acts [.ulc] s (doPassThrough p s).2 := by
  unfold doPassThrough
  dsimp only
  repeat' (first
    | with_reducible exact answer_acts ..
    | with_reducible exact outOfRange_acts ..
    | with_reducible exact badLength_acts ..
    | with_reducible exact mapUlc_acts ..
    | split)

/-! ## The catalogue (R182, R200) -/

/-- The blocks a request other than FETCH_NOTICES can change, beside its postings. -/
def requestBlocks : List Block := [.mgp, .lvs, .acm, .rsv, .bmn, .brc, .ldm, .seq, .lkm, .ulc]

/-- The handler posts notices and takes none out, whatever the payload and the state. -/
def PostsOnly (h : Handler) : Prop := ∀ p s, Acts requestBlocks s (h p s).2

/-- A handler that changes fewer blocks than any request can. -/
theorem PostsOnly.of {bs : List Block} {h : Handler} (acts : ∀ p s, Acts bs s (h p s).2)
    (sub : bs.all (requestBlocks.contains ·) = true := by decide +kernel) : PostsOnly h := fun p s => (acts p s).up sub

/-- A known request is FETCH_NOTICES, or its handler posts notices and takes none out. -/
theorem catalogue_postsOnly : ∀ h ∈ catalogue, h = doFetchNotices ∨ PostsOnly h := by
  rw [catalogue]
  simp only [List.forall_mem_cons]
  exact ⟨.inr (.of doIdentify_acts), .inr (.of doGetStatus_acts), .inr (.of doReadEstimate_acts), .inr (.of doSetLevel_acts),
    .inr (.of doReadSetting_acts), .inr (.of doWriteSetting_acts), .inr (.of doCommitSettings_acts),
    .inr (.of doRevertSettings_acts), .inr (.of doRestart_acts),
    .inr (.of doReadSlot_acts), .inr (.of doWriteSlot_acts), .inr (.of doSlotPower_acts), .inr (.of doSlotClear_acts),
    .inr (.of doReadZones_acts), .inr (.of doZoneRelease_acts),
    .inr (.of doPlanBegin_acts), .inr (.of doPlanSteps_acts), .inr (.of doPlanStart_acts), .inr (.of doPlanPause_acts),
    .inr (.of doPlanResume_acts), .inr (.of doPlanCancel_acts), .inr (.of doReadPlan_acts),
    .inr (.of doReadRectifier_acts), .inr (.of doRectifierEnable_acts), .inr (.of doRectifierDisable_acts),
    .inr (.of doRectifierClear_acts), .inr (.of doReadBattery_acts), .inr (.of doStartImpedanceTest_acts),
    .inr (.of doReadLeak_acts), .inr (.of doWriteLeak_acts), .inr (.of doLeakAck_acts), .inr (.of doReadPollTable_acts),
    .inr (.of doWritePollTable_acts), .inr (.of doReadUnit_acts), .inr (.of doUnitUnquiet_acts), .inr (.of doLinkReset_acts),
    .inr (.of doPassThrough_acts), .inl trivial, by simp⟩

/-- The handler of a kind stands in the catalogue. -/
theorem handlerOf_mem {kind : Byte} {h : Handler} (e : handlerOf kind = some h) : h ∈ catalogue := by
  unfold handlerOf at e
  split at e
  · contradiction
  · exact List.mem_of_getElem? e

end Sys2Proof.Laws
end

section
/-! SUPPORT. The port: the Management Port, request by request. Part time and the queue of waiting commands outlive all it
does; the warm restart changes nothing but by postings once the port and the Notice Queue are cleared. -/
namespace Sys2Proof.Laws
open Sys2Proof.Machine Sys2Proof.Safety

/-! ## What outlives every command but SENSE_FRAME and POWER_ON_RESET (R2) -/

/-- `t` has the part time and the queue of waiting commands of `s`. -/
structure SameClock (s t : State) : Prop where
  time : t.partTime = s.partTime
  queue : t.pending = s.pending

theorem SameClock.refl (s : State) : SameClock s s := ⟨rfl, rfl⟩

theorem SameClock.trans {s t u : State} (h : SameClock s t) (k : SameClock t u) : SameClock s u :=
  ⟨k.time.trans h.time, k.queue.trans h.queue⟩

/-- An act on blocks alone leaves part time and the queue. -/
theorem Acts.sameClock {bs : List Block} {s t : State} (h : Acts bs s t) : SameClock s t := ⟨h.time, h.queue⟩

/-! ## The warm restart (R199) -/

/-- Once the port and the Notice Queue are cleared, the warm restart posts notices only. -/
theorem warmRestart_acts (s : State) : Acts requestBlocks (clearPort s) (warmRestart s) := by
  unfold warmRestart
  dsimp only
  refine (postStarted_acts ..).after ((enterLevelWarm_acts ..).after ((startSilence_acts _).after ((mapMgp_acts ..).after
    ((restartReload_acts _).after ((batteryRestart_acts ..).after ((sequencerRestart_acts _).after
      ((restartRounds_acts _).after ((clearQ1_acts _).up))))))))

theorem warmRestart_sameClock (s : State) : SameClock s (warmRestart s) :=
  (show SameClock s (clearPort s) from ⟨rfl, rfl⟩).trans (warmRestart_acts s).sameClock

/-! ## Requests (R181, R182) -/

/-- FETCH_NOTICES changes the Notice Queue alone (R189). -/
theorem doFetchNotices_sameClock (p : List Byte) (s : State) : SameClock s (doFetchNotices p s).2 := by
  unfold doFetchNotices
  split
  · split
    · exact .refl s
    · exact ⟨rfl, rfl⟩
  · exact .refl s

theorem handler_sameClock {h : Handler} (mem : h ∈ catalogue) (p : List Byte) (s : State) : SameClock s (h p s).2 := by
  rcases catalogue_postsOnly h mem with rfl | posts
  · exact doFetchNotices_sameClock p s
  · exact (posts p s).sameClock

/-- What a handler gave becomes a reply, or defers it, in the port alone. -/
theorem finishRequest_acts (r : Request) (result : Option Response × State) :
    Acts [.mgp] result.2 (finishRequest r result) := by
  unfold finishRequest
  dsimp only
  split
  · exact (startSilence_acts _).trans (buildReply_acts ..)
  · exact (startSilence_acts _).trans (mapMgp_acts ..)

theorem takeRequest_sameClock (r : Request) (s : State) : SameClock s (takeRequest r s) := by
  unfold takeRequest
  split
  · next h e =>
    exact (clearSilence_acts s).sameClock.trans
      ((handler_sameClock (handlerOf_mem e) _ _).trans (finishRequest_acts ..).sameClock)
  · exact (takeUnknown_acts r s).sameClock

theorem receiveRequest_sameClock (r : Request) (s : State) : SameClock s (receiveRequest r s) := by
  have hunting : SameClock s (abandonFrame s) := (abandonFrame_acts s).sameClock
  unfold receiveRequest
  split
  · exact hunting
  · dsimp only
    split
    · exact hunting.trans (takeRequest_sameClock r _)
    · exact hunting.trans (mapMgp_acts ..).sameClock
    · exact hunting.trans (mapMgp_acts ..).sameClock

theorem takeWaiting_sameClock (s : State) : SameClock s (takeWaiting s) := by
  unfold takeWaiting
  split
  · exact (mapMgp_acts _ s).sameClock.trans (takeRequest_sameClock _ _)
  · exact .refl s

theorem replySent_sameClock (s : State) : SameClock s (replySent s) := by
  unfold replySent
  split
  · dsimp only
    have ended : SameClock s (s.mapMgp Mgp.endReply) := (mapMgp_acts _ s).sameClock
    refine .trans ?_ ((switchRate_acts _).sameClock.trans (takeWaiting_sameClock _))
    split
    · exact ended.trans (warmRestart_sameClock _)
    · exact ended
  · exact .refl s

/-! ## Characters (R178, R180) -/

theorem frameEnds_sameClock (e : AssemblyEnd) (s : State) : SameClock s (frameEnds e s) := by
  cases e with
  | frame r => exact receiveRequest_sameClock r s
  | framingError | lengthAbandon | crcDiscard => exact (frameEnds_acts _ s (by simp)).sameClock

theorem hearChar_sameClock (c : PortChar) (s : State) : SameClock s (hearChar c s) := by
  unfold hearChar
  dsimp only
  split
  · exact (mapMgp_acts _ s).sameClock.trans (frameEnds_sameClock _ _)
  · exact (mapMgp_acts _ s).sameClock

theorem hearChars_sameClock (chars : List PortChar) (s : State) : SameClock s (hearChars chars s) := by
  induction chars generalizing s with
  | nil => exact .refl s
  | cons c rest ih => exact (hearChar_sameClock c s).trans (ih (hearChar c s))

theorem gapAbandon_sameClock (chars : List PortChar) (s : State) : SameClock s (gapAbandon chars s) :=
  (hearChars_sameClock chars s).trans (abandonFrame_acts _).sameClock

end Sys2Proof.Laws
end

section
/-! PROOFS. The commands: every command answers a next state in every state (the statements on the queue and on scope). -/
namespace Sys2Proof.Laws
open Sys2Proof Sys2Proof.Machine Sys2Proof.Safety

/-- A command that is a request hands its frame to the Management Port (R179, R200). -/
theorem exec_of_requestOf {c : Instr} {r : Request} (h : requestOf c = some r) (s : State) :
    exec c s = .next (receiveRequest r s) := by
  cases c <;> cases h <;> rfl

/-- A sense frame passes 1 ms and leaves the queue of waiting commands (R2, R52). -/
theorem senseFrame_clock (raw : RawFrame) (s : State) :
    (senseFrame raw s).partTime = s.partTime + 1 ∧ (senseFrame raw s).pending = s.pending := by
  have due := takeDueEnds_acts s
  have ms := tick_acts (takeDueEnds s)
  have frame := takeFrame_acts (limitFrame raw) (tick (takeDueEnds s))
  constructor
  · calc (senseFrame raw s).partTime
      _ = (tick (takeDueEnds s)).partTime := frame.time
      _ = (takeDueEnds s).partTime + 1 := ms.time
      _ = s.partTime + 1 := by rw [due.time]
  · exact frame.queue.trans (ms.queue.trans due.queue)

/-- The state a command that is no request answers, part time and queue as they were; SENSE_FRAME and POWER_ON_RESET set their own
part time. -/
theorem exec_of_event (c : Instr) (h : requestOf c = none) (s : State) : ∃ t, exec c s = .next t ∧
    (SameClock s t ∨ t.pending = s.pending ∧ ((∃ raw, c = .senseFrame raw) ∨ c = .powerOnReset)) := by
  cases c with
  | powerOnReset => exact ⟨_, rfl, .inr ⟨rfl, .inr rfl⟩⟩
  | senseFrame raw => exact ⟨_, rfl, .inr ⟨(senseFrame_clock raw s).2, .inl ⟨raw, rfl⟩⟩⟩
  | baselineEnd => exact ⟨_, rfl, .inl (baselineEnd_acts s).sameClock⟩
  | settleEnd => exact ⟨_, rfl, .inl (settleEnd_acts s).sameClock⟩
  | measureEnd => exact ⟨_, rfl, .inl (measureEnd_acts s).sameClock⟩
  | releaseSettleEnd => exact ⟨_, rfl, .inl (releaseSettleEnd_acts s).sameClock⟩
  | testLoadOffOwedPlaced => exact ⟨_, rfl, .inl (placeOwedRelease_acts s).sameClock⟩
  | evaluationWindowCompletion order => exact ⟨_, rfl, .inl (completeWindow_acts order s).sameClock⟩
  | zeroCrossing phase counter => exact ⟨_, rfl, .inl (zeroCrossing_acts phase counter s).sameClock⟩
  | lossLimitExpiry phase => exact ⟨_, rfl, .inl (lossLimitExpiry_acts phase s).sameClock⟩
  | retryDelayExpiry k => exact ⟨_, rfl, .inl (retryDelayExpired_acts k s).sameClock⟩
  | runTimeSecond k => exact ⟨_, rfl, .inl (runTimeSecond_acts k s).sameClock⟩
  | shedSettleExpiry => exact ⟨_, rfl, .inl (shedSettleExpiry_acts s).sameClock⟩
  | stableTimerExpiry => exact ⟨_, rfl, .inl (stableTimerExpiry_acts s).sameClock⟩
  | seqJudgeSlot => exact ⟨_, rfl, .inl (seqJudgeSlot_acts s).sameClock⟩
  | awaitTimerExpiry => exact ⟨_, rfl, .inl (awaitTimerExpiry_acts s).sameClock⟩
  | settleTimerExpiry => exact ⟨_, rfl, .inl (settleTimerExpiry_acts s).sameClock⟩
  | restoreSettleExpiry => exact ⟨_, rfl, .inl (restoreSettleExpiry_acts s).sameClock⟩
  | leakSample readings => exact ⟨_, rfl, .inl (leakSample_acts readings s).sameClock⟩
  | isolationDelayExpiry z => exact ⟨_, rfl, .inl (isolationDelayExpiry_acts z s).sameClock⟩
  | lineGrant => exact ⟨_, rfl, .inl (lineGrant_acts s).sameClock⟩
  | callEnd => exact ⟨_, rfl, .inl (callEnd_acts s).sameClock⟩
  | responseTimeout => exact ⟨_, rfl, .inl (responseTimeout_acts s).sameClock⟩
  | answerFirstCharacter => exact ⟨_, rfl, .inl (answerFirstCharacter_acts s).sameClock⟩
  | answerComplete chars => exact ⟨_, rfl, .inl (answerComplete_acts chars s).sameClock⟩
  | answerGapTimeout => exact ⟨_, rfl, .inl (answerGapTimeout_acts s).sameClock⟩
  | jabberInAnswer cause => exact ⟨_, rfl, .inl (jabberInAnswer_acts cause s).sameClock⟩
  | linkJabber => exact ⟨_, rfl, .inl (linkJabber_acts s).sameClock⟩
  | characterOutsideTransaction => exact ⟨_, rfl, .inl (characterOutsideTransaction_acts s).sameClock⟩
  | lineIdle => exact ⟨_, rfl, .inl (lineIdle_acts s).sameClock⟩
  | pollCycleExpiry => exact ⟨_, rfl, .inl (pollCycleExpiry_acts s).sameClock⟩
  | passThroughNotSent => exact ⟨_, rfl, .inl (passThroughNotSent_acts s).sameClock⟩
  | hostSilent => exact ⟨_, rfl, .inl (hostSilent_acts s).sameClock⟩
  | commitCompletion imageMatches => exact ⟨_, rfl, .inl (commitCompletion_acts imageMatches s).sameClock⟩
  | requestOverrun => exact ⟨_, rfl, .inl (requestOverrun_acts s).sameClock⟩
  | requestGapAbandon chars => exact ⟨_, rfl, .inl (gapAbandon_sameClock chars s)⟩
  | requestCrcDiscard chars | requestFramingError chars | requestLengthAbandon chars =>
    exact ⟨_, rfl, .inl (hearChars_sameClock chars s)⟩
  | replySent => exact ⟨_, rfl, .inl (replySent_sameClock s)⟩
  | _ => contradiction

/-- Settles O2: a request answers what the Management Port makes of it, and every other command its own effect; only SENSE_FRAME
and POWER_ON_RESET act on part time. -/
theorem everyCommandCompletes : Obligations.EveryCommandCompletes := by
  intro c s
  cases e : requestOf c with
  | some r =>
    obtain ⟨time, queue⟩ := receiveRequest_sameClock r s
    exact ⟨_, exec_of_requestOf e s, queue, .inr (.inr time)⟩
  | none =>
    obtain ⟨t, next, ⟨time, queue⟩ | ⟨queue, raw | reset⟩⟩ := exec_of_event c e s
    · exact ⟨t, next, queue, .inr (.inr time)⟩
    · exact ⟨t, next, queue, .inl raw⟩
    · exact ⟨t, next, queue, .inr (.inl reset)⟩

/-- Settles O1: by the two branches of `step`, a waiting command or none. -/
theorem stepRunsFrontCommand : Obligations.StepRunsFrontCommand := by
  constructor
  · intro c rest s
    rfl
  · intro s idle
    simp only [step, idle]

end Sys2Proof.Laws
end

section
/-! PROOFS. The window: the evaluation window (R52, R53): what a sense frame and a window completion make of the Sense
Front-End. -/
namespace Sys2Proof.Laws
open Sys2Proof Sys2Proof.Machine Sys2Proof.Safety

/-- The Sense Front-End outlives an act that does not change it. -/
theorem Acts.sfe {bs : List Block} {s t : State} (h : Acts bs s t) (hb : bs.contains .sfe = false := by decide) :
    t.sfe = s.sfe := h.frame .sfe (by simpa using hb) (by decide)

/-- No block that takes the completion changes the figures it reads (R54). -/
theorem take_sfe (b : WindowBlock) (s : State) : (Machine.WindowBlock.take b s).sfe = s.sfe := by
  cases b with
  | brc => exact (bridgeWindow_acts s).sfe
  | ldm => exact (decayRamp_acts s).sfe
  | seq => exact (sequencerWindow_acts s).sfe
  | bmn => exact (batteryWindow_acts s).sfe
  | rsv => exact (rectifierWindow_acts s).sfe

theorem takeAll_sfe (order : List WindowBlock) (s : State) : (s.forEach order Machine.WindowBlock.take).sfe = s.sfe := by
  induction order generalizing s with
  | nil => rfl
  | cons b rest ih => exact (ih (Machine.WindowBlock.take b s)).trans (take_sfe b s)

/-- A window short of a hundred frames does not complete (R53). -/
theorem completeWindow_of_short (order : List WindowBlock) {s : State} (short : s.sfe.window.count < 100) :
    completeWindow order s = s := if_neg (by omega)

/-- A full window becomes the latest figures, and the next window begins empty (R53). -/
theorem completeWindow_sfe (order : List WindowBlock) {s : State} (full : 100 ≤ s.sfe.window.count) :
    (completeWindow order s).sfe = { s.sfe with
      window := .empty, latest := s.sfe.window.figures s.sfe.latest.windowCount } := by
  unfold completeWindow
  rw [if_pos full]
  exact (takeAll_sfe _ _).trans (postSaturation_acts ..).sfe

/-- The ends of the test's phases come before the completion and leave the window (R83 to R86). -/
theorem takeDueEnds_sfe (s : State) : (takeDueEnds s).sfe =
    if 100 ≤ s.sfe.window.count then
      { s.sfe with window := .empty, latest := s.sfe.window.figures s.sfe.latest.windowCount }
    else s.sfe := by
  have ends : (placeOwedRelease (releaseSettleEnd (measureEnd (settleEnd (baselineEnd s))))).sfe = s.sfe :=
    ((placeOwedRelease_acts _).after ((releaseSettleEnd_acts _).after ((measureEnd_acts _).after ((settleEnd_acts _).after
      (baselineEnd_acts s))))).sfe
  unfold takeDueEnds
  split
  · next full => rw [completeWindow_sfe _ (ends ▸ full), ends]
  · next short => rw [completeWindow_of_short _ (by rw [ends]; omega), ends]

/-- The Battery Monitor counts the frame, and the window in progress takes it (R52). -/
theorem takeFrame_sfe (f : SenseFrame) (s : State) :
    (takeFrame f s).sfe = { s.sfe with frame := f, window := s.sfe.window.add f } := by
  have counted : (testFrame f (s.forEach (List.finRange 4) (countModule f))).sfe = s.sfe :=
    ((testFrame_acts f _).after (.forEach (countModule_acts f) _ s)).sfe
  simp only [takeFrame, State.mapSfe_sfe, counted]

/-- A sense frame enters the window in progress, a new one where a full window still stood (R52, R53). -/
theorem senseFrame_sfe (raw : RawFrame) (s : State) : (senseFrame raw s).sfe =
    { frame := limitFrame raw
      window := (if 100 ≤ s.sfe.window.count then Window.empty else s.sfe.window).add (limitFrame raw)
      latest := if 100 ≤ s.sfe.window.count then s.sfe.window.figures s.sfe.latest.windowCount else s.sfe.latest } := by
  have ms : (tick (takeDueEnds s)).sfe = (takeDueEnds s).sfe := (tick_acts _).sfe
  rw [senseFrame, takeFrame_sfe, ms, takeDueEnds_sfe]
  split <;> rfl

/-- A sense frame leaves the settings and the level. -/
theorem senseFrame_lvs (raw : RawFrame) (s : State) : (senseFrame raw s).lvs = s.lvs := by
  have ms : (tick (takeDueEnds s)).lvs = (takeDueEnds s).lvs := (tick_acts _).lvs
  exact (takeFrame_acts _ _).lvs.trans (ms.trans (takeDueEnds_acts s).lvs)

/-- The total discharge mean sums the positive currents (R53). -/
theorem totalDischarge_eq (iMean : Vector Int 4) :
    (totalDischarge iMean : Int) = ((List.finRange 4).map fun i => max (0 : Int) iMean[i]).sum := by
  unfold totalDischarge
  rw [Nat.cast_list_sum, List.map_map]
  congr 2
  funext i
  exact (Int.toNat_eq_max _).trans (max_comm _ _)

/-- Settles O15: a sense frame by what it makes of part time and of the Sense Front-End, a completion by the count of the window. -/
theorem windowFillsAndCompletes : Obligations.WindowFillsAndCompletes := by
  constructor
  · intro raw s
    have sfe := senseFrame_sfe raw s
    exact ⟨_, rfl, (senseFrame_clock raw s).1, by rw [sfe], by rw [sfe], by rw [sfe], senseFrame_lvs raw s⟩
  · intro order s
    constructor
    · intro short
      exact congrArg Host.Outcome.next (completeWindow_of_short order short)
    · intro full
      refine ⟨_, rfl, ?_⟩
      rw [completeWindow_sfe order full]
      refine ⟨rfl, rfl, rfl, rfl, fun i => ?_, ?_, rfl, rfl⟩
      · simp [Window.figures]
      · simp [Window.figures, totalDischarge_eq]

end Sys2Proof.Laws
end

section
/-! PROOFS. The rectifiers: what a change of a rectifier record and the placing of a MODULE call leave (R42, R46), and the
retry-delay expiry and the run-time second by them (R39, R41). -/
namespace Sys2Proof.Laws
open Sys2Proof Sys2Proof.Machine Sys2Proof.Safety

/-! ## Changes one after the other -/

/-- A change of no more blocks than some is a change of those. -/
theorem changesOnly_up {as bs : List Block} {s t : State} (h : changesOnly as s t)
    (sub : as.all (bs.contains ·) = true := by decide) : changesOnly bs s t :=
  ⟨h.1, h.2.1, fun b hb => h.2.2 b fun m => hb (by simpa using List.all_eq_true.1 sub b m)⟩

/-- Two changes, one after the other, of blocks of the same list. -/
theorem changesOnly_trans {bs : List Block} {s t u : State} (h : changesOnly bs s t) (k : changesOnly bs t u) :
    changesOnly bs s u := by
  obtain ⟨time, queue, frame⟩ := h
  obtain ⟨time', queue', frame'⟩ := k
  refine ⟨time'.trans time, queue'.trans queue, fun b hb => ?_⟩
  have first := frame b hb
  have second := frame' b hb
  cases b <;> exact Eq.trans second first

theorem changesOnly_refl (bs : List Block) (s : State) : changesOnly bs s s :=
  ⟨rfl, rfl, fun b _ => by cases b <;> rfl⟩

/-- The Unit Link Controller's own change is a change of it alone. -/
theorem mapUlc_changesOnly (f : Ulc → Ulc) (s : State) : changesOnly [.ulc] s (s.mapUlc f) :=
  (mapUlc_acts f s).changesOnly (.inr rfl)

/-! ## A record and its contribution (R46) -/

/-- A rectifier record with its contribution formed again from its state and derate code (R46), as every change of a record forms it. -/
def contributed (c : Settings) (k : Fin 6) (r : Rectifier) : Rectifier :=
  { r with contribution := contributionFor c.rectifierRating[k] r.state r.derate }

@[simp] theorem contributed_state (c : Settings) (k : Fin 6) (r : Rectifier) : (contributed c k r).state = r.state := rfl
@[simp] theorem contributed_derate (c : Settings) (k : Fin 6) (r : Rectifier) : (contributed c k r).derate = r.derate := rfl
@[simp] theorem contributed_adminDisabled (c : Settings) (k : Fin 6) (r : Rectifier) :
    (contributed c k r).adminDisabled = r.adminDisabled := rfl
@[simp] theorem contributed_retryPhase (c : Settings) (k : Fin 6) (r : Rectifier) : (contributed c k r).retryPhase = r.retryPhase := rfl
@[simp] theorem contributed_retryTimer (c : Settings) (k : Fin 6) (r : Rectifier) : (contributed c k r).retryTimer = r.retryTimer := rfl
@[simp] theorem contributed_retryCount (c : Settings) (k : Fin 6) (r : Rectifier) : (contributed c k r).retryCount = r.retryCount := rfl
@[simp] theorem contributed_runTime (c : Settings) (k : Fin 6) (r : Rectifier) : (contributed c k r).runTime = r.runTime := rfl
@[simp] theorem contributed_lastFault (c : Settings) (k : Fin 6) (r : Rectifier) : (contributed c k r).lastFault = r.lastFault := rfl
@[simp] theorem contributed_contribution (c : Settings) (k : Fin 6) (r : Rectifier) :
    (contributed c k r).contribution = contributionFor c.rectifierRating[k] r.state r.derate := rfl

/-- A record whose contribution is the one its state gives is left as it is. -/
theorem contributed_of_eq {c : Settings} {k : Fin 6} {r : Rectifier}
    (h : r.contribution = contributionFor c.rectifierRating[k] r.state r.derate) : contributed c k r = r := by
  unfold contributed
  rw [← h]

/-- While every contribution stands as its state gives it, forming them again changes none. -/
theorem contributed_rect {s : State} (ok : CapacityOk s) (k : Fin 6) : contributed s.cfg k (s.rect k) = s.rect k :=
  contributed_of_eq (ok.1 k)

/-- Recomputing the capacity leaves every record but for its contribution (R46). -/
theorem recomputeCapacity_rect (j : Fin 6) (s : State) : (recomputeCapacity s).rect j = contributed s.cfg j (s.rect j) := by
  simp [recomputeCapacity, contributed]

/-- Replacing a record acts on the records as the capacity formed over the new one. -/
theorem putRect_rsv (k : Fin 6) (r : Rectifier) (s : State) :
    (putRect k r s).rsv = (recomputeCapacity (s.mapRsv fun v => { v with rects := v.rects.set k r })).rsv := by
  unfold putRect
  dsimp only
  split <;> rfl

/-- A changed record reads as it was changed, its contribution formed from its state. -/
theorem mapRect_rect (k : Fin 6) (f : Rectifier → Rectifier) (s : State) :
    (mapRect k f s).rect k = contributed s.cfg k (f (s.rect k)) := by
  unfold mapRect
  rw [State.rect, putRect_rsv]
  exact (recomputeCapacity_rect k _).trans (congrArg (contributed s.cfg k) (Vector.getElem_set_self _))

/-- Every other record keeps all but its contribution. -/
theorem mapRect_rect_of_ne {j k : Fin 6} (f : Rectifier → Rectifier) (s : State) (h : j ≠ k) :
    (mapRect k f s).rect j = contributed s.cfg j (s.rect j) := by
  have ne : (k : Nat) ≠ j := fun e => h (Fin.ext e.symm)
  unfold mapRect
  rw [State.rect, putRect_rsv]
  exact (recomputeCapacity_rect j _).trans (congrArg (contributed s.cfg j) (Vector.getElem_set_ne k.isLt j.isLt ne))

/-- While the contributions stand as they should, a change of one record leaves every other. -/
theorem mapRect_rectsKeptBut {k : Fin 6} {s : State} (ok : CapacityOk s) (f : Rectifier → Rectifier) :
    rectsKeptBut k s (mapRect k f s) :=
  fun j h => (mapRect_rect_of_ne f s h).trans (contributed_rect ok j)

theorem mapRect_lvs (k : Fin 6) (f : Rectifier → Rectifier) (s : State) : (mapRect k f s).lvs = s.lvs := (mapRect_acts k f s).lvs

theorem mapRect_ulc (k : Fin 6) (f : Rectifier → Rectifier) (s : State) : (mapRect k f s).ulc = s.ulc := (mapRect_acts k f s).ulc

theorem mapRect_acm (k : Fin 6) (f : Rectifier → Rectifier) (s : State) : (mapRect k f s).acm = s.acm :=
  (mapRect_acts k f s).frame .acm (by decide) (by decide)

/-- A change that keeps the module's state posts nothing (R47). -/
theorem mapRect_nq {k : Fin 6} {f : Rectifier → Rectifier} {s : State} (kept : (f (s.rect k)).state = (s.rect k).state) :
    (mapRect k f s).nq = s.nq := by
  unfold mapRect putRect
  dsimp only
  rw [if_pos kept.symm]
  rfl

/-- A change that keeps the module's state is a change of the Rectifier Supervisor alone. -/
theorem mapRect_changesOnly {k : Fin 6} {f : Rectifier → Rectifier} {s : State}
    (kept : (f (s.rect k)).state = (s.rect k).state) : changesOnly [.rsv] s (mapRect k f s) :=
  (mapRect_acts k f s).changesOnly (.inr (mapRect_nq kept))

/-! ## Conditions on a module (R39) -/

theorem isRetrying_iff (s : State) (k : Fin 6) (p : RetryPhase) :
    s.isRetrying k p = true ↔ (s.rect k).state = .faulted ∧ (s.rect k).retryPhase = some p := by
  simp [State.isRetrying]

theorem running_iff (st : RectifierState) : st.running = true ↔ st = .online ∨ st = .derated := by
  cases st <;> simp [RectifierState.running]

/-- The feed condition is read of the settings and the phases. -/
theorem fed_congr {s t : State} (lvs : t.lvs = s.lvs) (acm : t.acm = s.acm) (k : Fin 6) : t.fed k = s.fed k := by
  simp only [State.fed, State.cfg, State.phase, lvs, acm]

/-- A change of a record leaves the feed condition. -/
theorem mapRect_fed (j k : Fin 6) (f : Rectifier → Rectifier) (s : State) : (mapRect k f s).fed j = s.fed j :=
  fed_congr (mapRect_lvs k f s) (mapRect_acm k f s) j

/-- A change of a record leaves the room in Q1. -/
theorem mapRect_roomInQ1 (k : Fin 6) (f : Rectifier → Rectifier) (s : State) : (mapRect k f s).roomInQ1 = s.roomInQ1 := by
  simp only [State.roomInQ1, mapRect_ulc]

/-! ## Placing a MODULE call (R42) -/

/-- The record of a MODULE call as it is placed. -/
def moduleCall (k : Fin 6) (kind : CommandKind) (retry : Bool) : CommandRecord := ⟨.rectifier k, kind, none, .rsv, 0, retry⟩

/-- Withdrawing the MODULE calls for a module changes the queues alone: none of them is a POWER ON. -/
theorem withdrawModuleCalls_eq {pick : CommandRecord → Bool} (s : State)
    (module : ∀ r, pick r = true → r.kind = .enable ∨ r.kind = .disable) :
    withdrawQueued pick s = s.mapUlc fun u =>
      { u with q0 := u.q0.filter fun r => !pick r, q1 := u.q1.filter fun r => !pick r } :=
  withdrawQueued_of_no_powerOn fun r _ hr => by rcases module r hr with e | e <;> simp [e]

theorem kind_of_isModuleCallFor {k : Fin 6} {r : CommandRecord} (h : isModuleCallFor k r = true) :
    r.kind = .enable ∨ r.kind = .disable := by
  simp only [isModuleCallFor, Bool.and_eq_true, Bool.or_eq_true, beq_iff_eq] at h
  exact h.1

/-- A MODULE call that is placed stands at the tail of Q1, the only queued one for its module. -/
theorem placeModuleCall_q1 {kind : CommandKind} (module : kind = .enable ∨ kind = .disable) (k : Fin 6) (retry : Bool) (s : State) :
    (placeModuleCall k kind retry s).ulc.q1 = (s.ulc.q1.filter fun r => !isModuleCallFor k r) ++ [moduleCall k kind retry] := by
  rcases module with rfl | rfl <;> simp [placeModuleCall, enqueue_ulc, withdrawQueued_ulc, newCommand, moduleCall, CommandKind.urgent]

/-- Placing a MODULE call changes the Unit Link Controller alone. -/
theorem placeModuleCall_changesOnly (k : Fin 6) (kind : CommandKind) (retry : Bool) (s : State) :
    changesOnly [.ulc] s (placeModuleCall k kind retry s) := by
  unfold placeModuleCall
  rw [withdrawModuleCalls_eq s fun _ => kind_of_isModuleCallFor]
  exact changesOnly_trans (mapUlc_changesOnly _ s) (mapUlc_changesOnly _ _)

theorem placeModuleCall_rsv (k : Fin 6) (kind : CommandKind) (retry : Bool) (s : State) :
    (placeModuleCall k kind retry s).rsv = s.rsv := (placeModuleCall_acts k kind retry s).rsv

/-! ## The retry-delay expiry and the run-time second (R39, R41) -/

/-- The attempt of a module whose feed is PRESENT while Q1 has room: ENABLING, with the ENABLE at the tail of Q1. -/
theorem attemptRetry_of_room {k : Fin 6} {s : State} (fed : s.fed k = true) (room : s.roomInQ1 = true) :
    (attemptRetry k s).rect k = contributed s.cfg k { s.rect k with retryPhase := some .enabling, retryTimer := none } ∧
      (attemptRetry k s).ulc.q1 = (s.ulc.q1.filter fun r => !isModuleCallFor k r) ++ [moduleCall k .enable true] := by
  unfold attemptRetry
  rw [if_pos ⟨fed, room⟩]
  constructor
  · rw [State.rect, placeModuleCall_rsv]
    exact mapRect_rect k _ s
  · rw [placeModuleCall_q1 (.inl rfl), mapRect_ulc]

/-- The attempt of a module whose feed is not PRESENT, or that finds no room in Q1: it is owed. -/
theorem attemptRetry_of_not_room {k : Fin 6} {s : State} (h : ¬(s.fed k = true ∧ s.roomInQ1 = true)) :
    attemptRetry k s = mapRect k (fun r => { r with retryPhase := some .due, retryTimer := none }) s := if_neg h

/-- A retry that has failed waits out the delay again, or locks the module out (R39, R40). -/
theorem retryFailed_rect (k : Fin 6) (s : State) : (retryFailed k s).rect k = contributed s.cfg k
    (if (s.rect k).retryCount < s.cfg.retryLimit then (s.rect k).delay s.cfg.retryDelayMs else (s.rect k).lock) :=
  mapRect_rect k _ s

/-- The expiry in DELAY with the count below RetryLimit: the attempt, counted. -/
theorem retryDelayExpired_of_counted {k : Fin 6} {s : State} (running : (s.rect k).retryTimer ≠ none)
    (delay : s.isRetrying k .delay = true) (below : (s.rect k).retryCount < s.cfg.retryLimit) : retryDelayExpired k s =
      attemptRetry k (mapRect k (fun r => { r with retryCount := r.retryCount + 1 }) s) := by
  unfold retryDelayExpired
  rw [if_pos (Option.isSome_iff_ne_none.2 running), if_pos delay, if_pos below]

/-- The expiry in DELAY with the count at RetryLimit: the lockout. -/
theorem retryDelayExpired_of_limit {k : Fin 6} {s : State} (running : (s.rect k).retryTimer ≠ none)
    (delay : s.isRetrying k .delay = true) (limit : s.cfg.retryLimit ≤ (s.rect k).retryCount) : retryDelayExpired k s =
      mapRect k Rectifier.lock s := by
  unfold retryDelayExpired
  rw [if_pos (Option.isSome_iff_ne_none.2 running), if_pos delay, if_neg (Nat.not_lt.2 limit)]

/-- The expiry in TRIAL: the retry has failed. -/
theorem retryDelayExpired_of_trial {k : Fin 6} {s : State} (running : (s.rect k).retryTimer ≠ none)
    (trial : s.isRetrying k .trial = true) : retryDelayExpired k s = retryFailed k s := by
  have notDelay : ¬ s.isRetrying k .delay = true := by
    rw [isRetrying_iff] at trial ⊢
    exact fun delay => by simpa using delay.2.symm.trans trial.2
  unfold retryDelayExpired
  rw [if_pos (Option.isSome_iff_ne_none.2 running), if_neg notDelay, if_pos trial]

/-- The expiry in DELAY (R39): the lockout at RetryLimit, and else the counted attempt, made or owed. -/
theorem retryDelayExpired_delay {k : Fin 6} {s : State} (running : (s.rect k).retryTimer ≠ none)
    (faulted : (s.rect k).state = .faulted) (phase : (s.rect k).retryPhase = some .delay) :
    let t := retryDelayExpired k s
    (t.rect k).retryTimer = none ∧
      (if s.cfg.retryLimit ≤ (s.rect k).retryCount then
        (t.rect k).state = .lockedOut ∧ (t.rect k).retryPhase = none ∧ (t.rect k).retryCount = (s.rect k).retryCount
      else (t.rect k).state = .faulted ∧ (t.rect k).retryCount = (s.rect k).retryCount + 1 ∧
        if s.fed k = true ∧ s.roomInQ1 = true then
          (t.rect k).retryPhase = some .enabling ∧
            t.ulc.q1 = (s.ulc.q1.filter fun r => !isModuleCallFor k r) ++ [moduleCall k .enable true]
        else (t.rect k).retryPhase = some .due ∧ t.ulc = s.ulc) := by
  have delay := (isRetrying_iff s k .delay).2 ⟨faulted, phase⟩
  dsimp only
  split
  · next limit =>
    rw [retryDelayExpired_of_limit running delay limit, mapRect_rect]
    exact ⟨rfl, rfl, rfl, rfl⟩
  · next below =>
    rw [retryDelayExpired_of_counted running delay (Nat.lt_of_not_le below)]
    have counted := mapRect_rect k (fun r => { r with retryCount := r.retryCount + 1 }) s
    have fed := mapRect_fed k k (fun r => { r with retryCount := r.retryCount + 1 }) s
    have room := mapRect_roomInQ1 k (fun r => { r with retryCount := r.retryCount + 1 }) s
    have calls := mapRect_ulc k (fun r => { r with retryCount := r.retryCount + 1 }) s
    generalize mapRect k (fun r => { r with retryCount := r.retryCount + 1 }) s = u at counted fed room calls
    rw [← fed, ← room, ← calls]
    split
    · next made =>
      obtain ⟨record, q1⟩ := attemptRetry_of_room made.1 made.2
      rw [record, q1, counted]
      exact ⟨rfl, faulted, rfl, rfl, rfl⟩
    · next owed =>
      rw [attemptRetry_of_not_room owed, mapRect_rect, mapRect_ulc, counted]
      exact ⟨rfl, faulted, rfl, rfl, rfl⟩

/-- The expiry in TRIAL (R39). -/
theorem retryDelayExpired_trial {k : Fin 6} {s : State} (running : (s.rect k).retryTimer ≠ none)
    (faulted : (s.rect k).state = .faulted) (phase : (s.rect k).retryPhase = some .trial) :
    let t := retryDelayExpired k s
    (t.rect k).retryCount = (s.rect k).retryCount ∧ t.ulc = s.ulc ∧
      if (s.rect k).retryCount < s.cfg.retryLimit then
        (t.rect k).state = .faulted ∧ (t.rect k).retryPhase = some .delay ∧ (t.rect k).retryTimer = some s.cfg.retryDelayMs
      else (t.rect k).state = .lockedOut ∧ (t.rect k).retryPhase = none ∧ (t.rect k).retryTimer = none := by
  rw [retryDelayExpired_of_trial running ((isRetrying_iff s k .trial).2 ⟨faulted, phase⟩)]
  dsimp only
  rw [retryFailed_rect]
  have calls : (retryFailed k s).ulc = s.ulc := (retryFailed_acts k s).ulc
  split
  · exact ⟨rfl, calls, faulted, rfl, rfl⟩
  · exact ⟨rfl, calls, rfl, rfl, rfl⟩

/-- A second in ONLINE or DERATED (R41). -/
theorem runTimeSecond_of_running {k : Fin 6} {s : State} (running : (s.rect k).state = .online ∨ (s.rect k).state = .derated) :
    let t := runTimeSecond k s
    (t.rect k).runTime = min 65535 ((s.rect k).runTime + 1) ∧
      (t.rect k).retryCount =
        (if s.cfg.retryWindowS ≤ min 65535 ((s.rect k).runTime + 1) then 0 else (s.rect k).retryCount) ∧
      (t.rect k).state = (s.rect k).state ∧ changesOnly [.rsv] s t := by
  unfold runTimeSecond
  rw [if_pos ((running_iff _).2 running)]
  dsimp only
  rw [mapRect_rect]
  exact ⟨rfl, rfl, rfl, mapRect_changesOnly rfl⟩

/-- Settles O23: the expiry by the retry phase, the second by whether the module runs. -/
theorem retryEvents : Obligations.RetryEvents := by
  intro k s
  refine ⟨fun stopped => ?_, fun running faulted phase => ⟨_, rfl, retryDelayExpired_delay running faulted phase⟩,
    fun running faulted phase => ⟨_, rfl, retryDelayExpired_trial running faulted phase⟩, fun notOnline notDerated => ?_,
    fun running => ⟨_, rfl, runTimeSecond_of_running running⟩⟩
  · exact congrArg Host.Outcome.next (if_neg fun h => Option.isSome_iff_ne_none.1 h stopped)
  · exact congrArg Host.Outcome.next (if_neg fun running => ((running_iff _).1 running).elim notOnline notDerated)

end Sys2Proof.Laws
end

section
/-! PROOFS. The rectifier requests (R43 to R45): how a request that is taken at once is answered, and RECTIFIER_ENABLE,
RECTIFIER_DISABLE and RECTIFIER_CLEAR by the module's state. -/
namespace Sys2Proof.Laws
open Sys2Proof Sys2Proof.Machine Sys2Proof.Safety

/-! ## A request taken at once (R181, R182) -/

/-- A request that the port takes at once is carried out on the state that heard it, and answered. -/
theorem exec_of_handled {c : Instr} {r : Request} {h : Handler} {resp : Response} {s v : State} (request : requestOf c = some r)
    (ready : portReady s) (short : r.payload.length ≤ 240) (known : handlerOf r.kind = some h)
    (handled : h r.payload (heard s) = (some resp, v)) : exec c s = .next (replied r.kind r.tag resp v) := by
  have free : (abandonFrame s).mgp.pending = .free := ready.1
  have idle : (abandonFrame s).mgp.reply = none := ready.2
  rw [exec_of_requestOf request, receiveRequest, if_neg (Nat.not_lt.2 short)]
  simp only [free, idle, takeRequest, known, takeKnown]
  rw [show clearSilence (abandonFrame s) = heard s from rfl, handled]
  rfl

/-- Hearing a request changes the port, and the sequencer where the host had been silent (R128, R190). -/
theorem heard_acts (s : State) : Acts [.mgp, .seq] s (heard s) := (clearSilence_acts _).after (abandonFrame_acts s).up

/-- Answering a request changes the port alone. -/
theorem replied_changesOnly (kind tag : Byte) (r : Response) (s : State) : changesOnly [.mgp] s (replied kind tag r s) :=
  ⟨rfl, rfl, fun b hb => by
    cases b with
    | mgp => exact absurd (List.mem_singleton_self _) hb
    | _ => rfl⟩

theorem finOf_of_toNat {n : Nat} {b : Byte} {k : Fin n} (h : b.toNat = k) : finOf n b = some k := by
  unfold finOf
  rw [dif_pos (h ▸ k.isLt)]
  exact congrArg some (Fin.ext h)

/-- A request that names one of `n` things is carried out on the one named. -/
theorem naming_of_toNat {n : Nat} {b : Byte} {k : Fin n} (h : b.toNat = k) (f : Fin n → State → Option Response × State) (s : State) :
    naming n f [b] s = f k s := by
  simp only [naming, finOf_of_toNat h]

/-- A byte that names none of the `n` things is out of range (R182). -/
theorem naming_of_le {n : Nat} {b : Byte} (h : n ≤ b.toNat) (f : Fin n → State → Option Response × State) (s : State) :
    naming n f [b] s = (some (refuse .outOfRange), s) := by
  have none : finOf n b = none := dif_neg (Nat.not_lt.2 h)
  simp only [naming, none]
  rfl

/-! ## The three requests on a module (R43 to R45) -/

/-- The rectifiers, the settings, the calls and the load are heard as they stand. -/
structure SameSupply (s u : State) : Prop where
  rsv : u.rsv = s.rsv
  lvs : u.lvs = s.lvs
  ulc : u.ulc = s.ulc
  ldm : u.ldm = s.ldm

theorem heard_sameSupply (s : State) : SameSupply s (heard s) :=
  ⟨(heard_acts s).rsv, (heard_acts s).lvs, (heard_acts s).ulc, (heard_acts s).ldm⟩

theorem SameSupply.rect {s u : State} (same : SameSupply s u) (k : Fin 6) : u.rect k = s.rect k := by
  simp only [State.rect, same.rsv]

theorem SameSupply.cfg {s u : State} (same : SameSupply s u) : u.cfg = s.cfg := congrArg Lvs.settings same.lvs

theorem SameSupply.capacityOk {s u : State} (same : SameSupply s u) (ok : CapacityOk s) : CapacityOk u := by
  unfold CapacityOk at ok ⊢
  simpa only [State.rect, State.cfg, same.rsv, same.lvs] using ok

theorem SameSupply.roomInQ1 {s u : State} (same : SameSupply s u) : u.roomInQ1 = s.roomInQ1 := by
  simp only [State.roomInQ1, same.ulc]

theorem SameSupply.capacityWithout {s u : State} (same : SameSupply s u) (k : Fin 6) : u.capacityWithout k = s.capacityWithout k := by
  simp only [State.capacityWithout, same.cfg, same.rect]

/-- A record that a request changes reads as changed, where the change gives it the contribution of its state, and every other record is
kept. -/
theorem SameSupply.record {s u v : State} (same : SameSupply s u) (ok : CapacityOk s) {k : Fin 6} {f : Rectifier → Rectifier}
    (rsv : v.rsv = (mapRect k f u).rsv)
    (formed : (f (s.rect k)).contribution =
      contributionFor s.cfg.rectifierRating[k] (f (s.rect k)).state (f (s.rect k)).derate) :
    rectsKeptBut k s v ∧ v.rect k = f (s.rect k) := by
  have reads : ∀ j, v.rect j = (mapRect k f u).rect j := fun j => by rw [State.rect, rsv]
  constructor
  · intro j h
    rw [reads, mapRect_rectsKeptBut (same.capacityOk ok) f j h, same.rect]
  · rw [reads, mapRect_rect, same.rect, same.cfg]
    exact contributed_of_eq formed

/-- P_avail is formed of the contributions alone. -/
theorem contributions_congr {v w : Vector Rectifier 6} (h : ∀ k : Fin 6, v[k].contribution = w[k].contribution) :
    contributions v = contributions w := by
  have each : v.map (·.contribution) = w.map (·.contribution) :=
    Vector.ext fun i hi => by simpa using h ⟨i, hi⟩
  simpa only [contributions, Vector.toList_map] using congrArg Vector.toList each

/-- A change that keeps a module's state and derate code keeps P_avail (R46). -/
theorem mapRect_pAvail {k : Fin 6} {f : Rectifier → Rectifier} {s : State} (ok : CapacityOk s)
    (state : (f (s.rect k)).state = (s.rect k).state) (derate : (f (s.rect k)).derate = (s.rect k).derate) :
    (mapRect k f s).rsv.pAvail = s.rsv.pAvail := by
  have each : ∀ j : Fin 6, ((mapRect k f s).rect j).contribution = (s.rect j).contribution := fun j => by
    by_cases e : j = k
    · subst e
      rw [mapRect_rect, contributed_contribution, state, derate, ok.1]
    · rw [mapRect_rectsKeptBut ok f j e]
  have formed : (mapRect k f s).rsv.pAvail = capacityOf s.cfg.redundancy (contributions (mapRect k f s).rsv.rects) := by
    unfold mapRect
    rw [putRect_rsv]
    rfl
  rw [formed, contributions_congr each, ok.2]

/-! ### RECTIFIER_ENABLE (R43) -/

section
variable {k : Fin 6} {b : Byte} {u : State}

theorem doRectifierEnable_of_lockedOut (named : b.toNat = k) (locked : (u.rect k).state = .lockedOut) :
    doRectifierEnable [b] u = (some (refuse .state), u) := by
  simp only [doRectifierEnable, naming_of_toNat named, locked]
  rfl

theorem doRectifierEnable_of_retry (named : b.toNat = k) (faulted : (u.rect k).state = .faulted) (retry : (u.rect k).retryPhase ≠ none) :
    doRectifierEnable [b] u = (some okEmpty, u) := by
  obtain ⟨p, phase⟩ := Option.ne_none_iff_exists'.1 retry
  simp only [doRectifierEnable, naming_of_toNat named, faulted, phase]
  rfl

theorem doRectifierEnable_of_faulted (named : b.toNat = k) (faulted : (u.rect k).state = .faulted) (phase : (u.rect k).retryPhase = none) :
    doRectifierEnable [b] u =
      (some okEmpty, mapRect k (fun r => { r with adminDisabled := false }.delay u.cfg.retryDelayMs) u) := by
  simp only [doRectifierEnable, naming_of_toNat named, faulted, phase]

theorem doRectifierEnable_of_absent (named : b.toNat = k) (absent : (u.rect k).state = .absent) :
    doRectifierEnable [b] u = (some okEmpty, mapRect k (fun r => { r with adminDisabled := false }) u) := by
  simp only [doRectifierEnable, naming_of_toNat named, absent]

/-- A module that runs, or would at an ENABLE: the request is carried out where Q1 has room. -/
theorem doRectifierEnable_of_able (named : b.toNat = k) (able : (u.rect k).state = .online ∨ (u.rect k).state = .derated ∨
    (u.rect k).state = .standby ∨ (u.rect k).state = .inputLost) : doRectifierEnable [b] u =
      if u.roomInQ1 then (some okEmpty, placeModuleCall k .enable false (mapRect k (fun r => { r with adminDisabled := false }) u))
      else (some (refuse .busy), u) := by
  rcases able with e | e | e | e <;> simp only [doRectifierEnable, naming_of_toNat named, e] <;> rfl

/-! ### RECTIFIER_DISABLE (R44) -/

theorem doRectifierDisable_of_short (named : b.toNat = k) (runs : (u.rect k).state.running = true)
    (short : u.capacityWithout k < u.ldm.pComm) : doRectifierDisable [b] u = (some (refuseFor .capacity), u) := by
  simp only [doRectifierDisable, naming_of_toNat named]
  exact if_pos ⟨runs, short⟩

theorem doRectifierDisable_of_full (named : b.toNat = k)
    (spare : ¬((u.rect k).state.running = true ∧ u.capacityWithout k < u.ldm.pComm))
    (there : (u.rect k).state ≠ .absent) (full : u.roomInQ1 = false) :
    doRectifierDisable [b] u = (some (refuse .busy), u) := by
  simp only [doRectifierDisable, naming_of_toNat named]
  exact (if_neg spare).trans (if_pos ⟨there, full⟩)

theorem doRectifierDisable_of_accepted (named : b.toNat = k)
    (spare : ¬((u.rect k).state.running = true ∧ u.capacityWithout k < u.ldm.pComm))
    (room : (u.rect k).state = .absent ∨ u.roomInQ1 = true) : doRectifierDisable [b] u = (some okEmpty, disableRect k u) := by
  simp only [doRectifierDisable, naming_of_toNat named]
  refine (if_neg spare).trans (if_neg fun ⟨there, full⟩ => ?_)
  rcases room with absent | room
  · exact there absent
  · exact Bool.noConfusion (full.symm.trans room)

/-! ### RECTIFIER_CLEAR (R45) -/

/-- A LOCKED_OUT module that is not disabled, and a FAULTED one that waits for a retry, are enabled at once. -/
theorem doRectifierClear_of_enables (named : b.toNat = k)
    (enables : ((u.rect k).state = .lockedOut ∧ (u.rect k).adminDisabled = false) ∨
      ((u.rect k).state = .faulted ∧ ((u.rect k).retryPhase = some .delay ∨ (u.rect k).retryPhase = some .due))) :
    doRectifierClear [b] u = clearEnable k u := by
  simp only [doRectifierClear, naming_of_toNat named]
  rcases enables with ⟨locked, enabled⟩ | ⟨faulted, phase | phase⟩
  · simp only [locked]
    exact if_neg (by rw [enabled]; decide)
  · simp only [faulted, phase]
  · simp only [faulted, phase]

theorem doRectifierClear_of_disabled (named : b.toNat = k) (locked : (u.rect k).state = .lockedOut)
    (disabled : (u.rect k).adminDisabled = true) : doRectifierClear [b] u =
      (some okEmpty, mapRect k (fun r => { r with state := .faulted, retryCount := 0, retryPhase := none }) u) := by
  simp only [doRectifierClear, naming_of_toNat named, locked]
  exact if_pos disabled

/-- Any other module has its count set to 0 alone. -/
theorem doRectifierClear_of_other (named : b.toNat = k) (unlocked : (u.rect k).state ≠ .lockedOut)
    (waits : (u.rect k).state = .faulted → (u.rect k).retryPhase ≠ some .delay ∧ (u.rect k).retryPhase ≠ some .due) :
    doRectifierClear [b] u = (some okEmpty, mapRect k (fun r => { r with retryCount := 0 }) u) := by
  simp only [doRectifierClear, naming_of_toNat named]
  split
  · next locked => exact absurd locked unlocked
  · next faulted phase => exact absurd phase (waits faulted).1
  · next faulted phase => exact absurd phase (waits faulted).2
  · rfl
end

/-! ### The requests answered -/

section
variable {s v : State} {tag b : Byte} {resp : Response}

theorem exec_rectifierEnable (ready : portReady s) (handled : doRectifierEnable [b] (heard s) = (some resp, v)) :
    exec (.rectifierEnable tag [b]) s = .next (replied 0x18 tag resp v) :=
  exec_of_handled (r := ⟨0x18, tag, [b]⟩) rfl ready (Nat.le_add_left 1 239) rfl handled

theorem exec_rectifierDisable (ready : portReady s) (handled : doRectifierDisable [b] (heard s) = (some resp, v)) :
    exec (.rectifierDisable tag [b]) s = .next (replied 0x19 tag resp v) :=
  exec_of_handled (r := ⟨0x19, tag, [b]⟩) rfl ready (Nat.le_add_left 1 239) rfl handled

theorem exec_rectifierClear (ready : portReady s) (handled : doRectifierClear [b] (heard s) = (some resp, v)) :
    exec (.rectifierClear tag [b]) s = .next (replied 0x1A tag resp v) :=
  exec_of_handled (r := ⟨0x1A, tag, [b]⟩) rfl ready (Nat.le_add_left 1 239) rfl handled
end

/-- A state that answers a request OK, with the record of module `k` left as `r`, every other record kept, and no block but `blocks`
changed since the request was heard. -/
structure Written (kind tag : Byte) (k : Fin 6) (r : Rectifier) (blocks : List Block) (s t : State) : Prop where
  reply : t.mgp.reply = some (replyFrame kind tag okEmpty)
  others : rectsKeptBut k s t
  record : t.rect k = r
  frame : changesOnly blocks (heard s) t

/-- What a handler leaves of the records, and of the blocks it does not name, stands in the state that answers. -/
theorem written_of_handled {kind tag : Byte} {k : Fin 6} {r : Rectifier} {blocks : List Block} {s v : State}
    (record : rectsKeptBut k s v ∧ v.rect k = r) (frame : changesOnly blocks (heard s) v)
    (port : blocks.contains .mgp = true := by decide) : Written kind tag k r blocks s (replied kind tag okEmpty v) :=
  ⟨rfl, record.1, record.2,
    changesOnly_trans frame (changesOnly_up (replied_changesOnly ..) (by simpa using port))⟩

/-- What RECTIFIER_DISABLE writes in the record (R44): a FAULTED module's retry ends. -/
def asDisabled (r : Rectifier) : Rectifier :=
  if r.state = .faulted then { r.endRetry with adminDisabled := true } else { r with adminDisabled := true }

theorem asDisabled_state (r : Rectifier) : (asDisabled r).state = r.state := by
  unfold asDisabled; split <;> rfl

theorem asDisabled_derate (r : Rectifier) : (asDisabled r).derate = r.derate := by
  unfold asDisabled; split <;> rfl

theorem asDisabled_contribution (r : Rectifier) : (asDisabled r).contribution = r.contribution := by
  unfold asDisabled; split <;> rfl

theorem asDisabled_formed {s : State} (ok : CapacityOk s) (k : Fin 6) : (asDisabled (s.rect k)).contribution =
    contributionFor s.cfg.rectifierRating[k] (asDisabled (s.rect k)).state (asDisabled (s.rect k)).derate := by
  rw [asDisabled_contribution, asDisabled_state, asDisabled_derate]
  exact ok.1 k

theorem disableRect_of_absent {k : Fin 6} {u : State} (absent : (u.rect k).state = .absent) :
    disableRect k u = mapRect k asDisabled u := if_pos absent

theorem disableRect_of_there {k : Fin 6} {u : State} (there : (u.rect k).state ≠ .absent) :
    disableRect k u = placeModuleCall k .disable false (mapRect k asDisabled u) := if_neg there

theorem disableRect_rsv (k : Fin 6) (u : State) : (disableRect k u).rsv = (mapRect k asDisabled u).rsv := by
  by_cases absent : (u.rect k).state = .absent
  · rw [disableRect_of_absent absent]
  · rw [disableRect_of_there absent, placeModuleCall_rsv]

theorem disableRect_changesOnly (k : Fin 6) (u : State) : changesOnly [.rsv, .ulc] u (disableRect k u) := by
  have written : changesOnly [.rsv, .ulc] u (mapRect k asDisabled u) :=
    changesOnly_up (mapRect_changesOnly (asDisabled_state _))
  by_cases absent : (u.rect k).state = .absent
  · rw [disableRect_of_absent absent]
    exact written
  · rw [disableRect_of_there absent]
    exact changesOnly_trans written (changesOnly_up (placeModuleCall_changesOnly ..))

theorem disableRect_q1 (k : Fin 6) (u : State) : (disableRect k u).ulc.q1 =
    if (u.rect k).state = .absent then u.ulc.q1
    else (u.ulc.q1.filter fun r => !isModuleCallFor k r) ++ [moduleCall k .disable false] := by
  split
  · next absent => rw [disableRect_of_absent absent, mapRect_ulc]
  · next there => rw [disableRect_of_there there, placeModuleCall_q1 (.inr rfl), mapRect_ulc]

/-- The record a clear leaves that enables the module at once (R45). -/
def asCleared (r : Rectifier) : Rectifier :=
  { r with state := .faulted, retryCount := 0, retryPhase := some .enabling, retryTimer := none }

theorem clearEnable_of_room {k : Fin 6} {u : State} (room : u.roomInQ1 = true) :
    clearEnable k u = (some okEmpty, placeModuleCall k .enable true (mapRect k asCleared u)) := if_pos room

theorem clearEnable_of_full {k : Fin 6} {u : State} (full : u.roomInQ1 = false) :
    clearEnable k u = (some (refuse .busy), u) := if_neg (by rw [full]; decide)


/-- A module that is FAULTED or LOCKED_OUT contributes nothing, whatever its derate code (R46). -/
theorem contribution_of_faulted {s : State} (ok : CapacityOk s) {k : Fin 6}
    (faulted : (s.rect k).state = .faulted ∨ (s.rect k).state = .lockedOut) : (s.rect k).contribution = 0 := by
  rw [ok.1 k]
  rcases faulted with e | e <;> rw [e] <;> rfl

section
variable {s : State} {k : Fin 6} {b : Byte}

/-- A request that writes a record and keeps the module's state. -/
theorem written_of_mapRect (ok : CapacityOk s) (kind tag : Byte) {f : Rectifier → Rectifier} (state : ∀ r, (f r).state = r.state)
    (formed : (f (s.rect k)).contribution =
      contributionFor s.cfg.rectifierRating[k] (f (s.rect k)).state (f (s.rect k)).derate) :
    Written kind tag k (f (s.rect k)) [.mgp, .rsv] s (replied kind tag okEmpty (mapRect k f (heard s))) :=
  written_of_handled ((heard_sameSupply s).record ok rfl formed) (changesOnly_up (mapRect_changesOnly (state _)))

/-- A request that writes a record, keeps the module's state and places a MODULE call. -/
theorem written_of_placed (ok : CapacityOk s) (kind tag : Byte) (call : CommandKind) (retry : Bool) {f : Rectifier → Rectifier}
    (state : ∀ r, (f r).state = r.state) (formed : (f (s.rect k)).contribution =
      contributionFor s.cfg.rectifierRating[k] (f (s.rect k)).state (f (s.rect k)).derate) :
    Written kind tag k (f (s.rect k)) [.mgp, .rsv, .ulc] s
      (replied kind tag okEmpty (placeModuleCall k call retry (mapRect k f (heard s)))) :=
  written_of_handled ((heard_sameSupply s).record ok (placeModuleCall_rsv ..) formed)
    (changesOnly_trans (changesOnly_up (mapRect_changesOnly (state _))) (changesOnly_up (placeModuleCall_changesOnly ..)))

/-- A clear that enables the module at once may post RECTIFIER_STATE (R45, R47). -/
theorem written_of_cleared (ok : CapacityOk s) (kind tag : Byte)
    (waits : (s.rect k).state = .faulted ∨ (s.rect k).state = .lockedOut) :
    Written kind tag k (asCleared (s.rect k)) [.mgp, .rsv, .ulc, .nq] s
      (replied kind tag okEmpty (placeModuleCall k .enable true (mapRect k asCleared (heard s)))) :=
  written_of_handled ((heard_sameSupply s).record ok (placeModuleCall_rsv ..) (contribution_of_faulted ok waits))
    (changesOnly_trans ((mapRect_acts k _ _).up.changesOnly (.inl (by decide))) (changesOnly_up (placeModuleCall_changesOnly ..)))

/-- The clear of a disabled LOCKED_OUT module posts RECTIFIER_STATE (R45, R47). -/
theorem written_of_unlocked (ok : CapacityOk s) (kind tag : Byte) (locked : (s.rect k).state = .lockedOut) :
    Written kind tag k { s.rect k with state := .faulted, retryCount := 0, retryPhase := none } [.mgp, .rsv, .nq] s
      (replied kind tag okEmpty
        (mapRect k (fun r => { r with state := .faulted, retryCount := 0, retryPhase := none }) (heard s))) :=
  written_of_handled ((heard_sameSupply s).record ok rfl (contribution_of_faulted ok (.inr locked)))
    ((mapRect_acts k _ _).up.changesOnly (.inl (by decide)))

/-- An accepted RECTIFIER_DISABLE (R44). -/
theorem written_of_disabled (ok : CapacityOk s) (kind tag : Byte) :
    Written kind tag k (asDisabled (s.rect k)) [.mgp, .rsv, .ulc] s (replied kind tag okEmpty (disableRect k (heard s))) :=
  written_of_handled ((heard_sameSupply s).record ok (disableRect_rsv k _) (asDisabled_formed ok k))
    (changesOnly_up (disableRect_changesOnly k _))

/-- The MODULE call of an answered request stands at the tail of Q1, in place of any other for its module (R42). -/
theorem q1_of_placed (kind tag : Byte) {call : CommandKind} (module : call = .enable ∨ call = .disable) (retry : Bool)
    (f : Rectifier → Rectifier) : (replied kind tag okEmpty (placeModuleCall k call retry (mapRect k f (heard s)))).ulc.q1 =
      (s.ulc.q1.filter fun r => !isModuleCallFor k r) ++ [moduleCall k call retry] :=
  (placeModuleCall_q1 module k retry (mapRect k f (heard s))).trans (by rw [mapRect_ulc, (heard_sameSupply s).ulc])

/-- A request that keeps a module's state and derate code keeps P_avail. -/
theorem heard_pAvail (ok : CapacityOk s) {f : Rectifier → Rectifier} (state : ∀ r, (f r).state = r.state)
    (derate : ∀ r, (f r).derate = r.derate) : (mapRect k f (heard s)).rsv.pAvail = s.rsv.pAvail :=
  (mapRect_pAvail ((heard_sameSupply s).capacityOk ok) (state _) (derate _)).trans
    (congrArg Rsv.pAvail (heard_sameSupply s).rsv)

/-- A request that keeps a module's state and derate code and places a MODULE call keeps P_avail. -/
theorem pAvail_of_placed (ok : CapacityOk s) (kind tag : Byte) (call : CommandKind) (retry : Bool) {f : Rectifier → Rectifier}
    (state : ∀ r, (f r).state = r.state) (derate : ∀ r, (f r).derate = r.derate) :
    (replied kind tag okEmpty (placeModuleCall k call retry (mapRect k f (heard s)))).rsv.pAvail = s.rsv.pAvail :=
  (congrArg Rsv.pAvail (placeModuleCall_rsv k call retry _)).trans (heard_pAvail ok state derate)

/-- The capacity that the module leaves suffices, or the module does not run: RECTIFIER_DISABLE is not refused for it (R44). -/
theorem heard_spare (spare : ((s.rect k).state ≠ .online ∧ (s.rect k).state ≠ .derated) ∨ s.ldm.pComm ≤ s.capacityWithout k) :
    ¬(((heard s).rect k).state.running = true ∧ (heard s).capacityWithout k < (heard s).ldm.pComm) := by
  have same := heard_sameSupply s
  rw [same.rect, same.capacityWithout, same.ldm, running_iff]
  rintro ⟨runs, short⟩
  rcases spare with ⟨notOnline, notDerated⟩ | enough
  · exact runs.elim notOnline notDerated
  · exact Nat.not_lt.2 enough short
end

/-- Settles O41: each request by the branch that the module's state takes of its handler, on the state that hears it. -/
theorem rectifierRequests : Obligations.RectifierRequests := by
  intro s tag b ready ok
  have same := heard_sameSupply s
  refine ⟨fun beyond => ⟨exec_rectifierEnable ready (naming_of_le beyond _ _),
    exec_rectifierDisable ready (naming_of_le beyond _ _), exec_rectifierClear ready (naming_of_le beyond _ _)⟩, fun k named => ?_⟩
  have there := same.rect k
  have room := same.roomInQ1
  refine ⟨?_, ?_, ?_, ?_, ?_, ?_, ?_, ?_, ?_, ?_⟩
  · intro locked
    exact exec_rectifierEnable ready (doRectifierEnable_of_lockedOut named (there ▸ locked))
  · intro faulted retry
    exact exec_rectifierEnable ready (doRectifierEnable_of_retry named (there ▸ faulted) (there ▸ retry))
  · intro faulted phase
    have handled := doRectifierEnable_of_faulted (u := heard s) named (there ▸ faulted) (there ▸ phase)
    rw [same.cfg] at handled
    obtain ⟨reply, others, record, frame⟩ := written_of_mapRect (k := k) ok 0x18 tag
      (f := fun r => { r with adminDisabled := false }.delay s.cfg.retryDelayMs) (fun _ => rfl) (ok.1 k)
    exact ⟨_, exec_rectifierEnable ready handled, reply, others, record, frame⟩
  · intro absent
    obtain ⟨reply, others, record, frame⟩ := written_of_mapRect (k := k) ok 0x18 tag
      (f := fun r => { r with adminDisabled := false }) (fun _ => rfl) (ok.1 k)
    exact ⟨_, exec_rectifierEnable ready (doRectifierEnable_of_absent named (there ▸ absent)), reply, others, record, frame⟩
  · intro able
    have handled := doRectifierEnable_of_able (u := heard s) named (by rwa [there])
    refine ⟨fun full => exec_rectifierEnable ready (handled.trans (if_neg (by rw [room, full]; decide))), fun free => ?_⟩
    obtain ⟨reply, others, record, frame⟩ := written_of_placed (k := k) ok 0x18 tag .enable false
      (f := fun r => { r with adminDisabled := false }) (fun _ => rfl) (ok.1 k)
    exact ⟨_, exec_rectifierEnable ready (handled.trans (if_pos (room.trans free))), reply, others, record,
      q1_of_placed 0x18 tag (.inl rfl) false _, pAvail_of_placed ok 0x18 tag .enable false (fun _ => rfl) fun _ => rfl, frame⟩
  · intro runs short
    refine exec_rectifierDisable ready (doRectifierDisable_of_short named (there ▸ (running_iff _).2 runs) ?_)
    rwa [same.capacityWithout, same.ldm]
  · intro spare
    refine ⟨fun present full => exec_rectifierDisable ready
      (doRectifierDisable_of_full named (heard_spare spare) (there ▸ present) (room.trans full)), fun accepted => ?_⟩
    have handled := doRectifierDisable_of_accepted (u := heard s) named (heard_spare spare) (by rwa [there, room])
    have available := (congrArg Rsv.pAvail (disableRect_rsv k (heard s))).trans
      (heard_pAvail ok asDisabled_state asDisabled_derate)
    have q1 := disableRect_q1 k (heard s)
    rw [there, same.ulc] at q1
    obtain ⟨reply, others, record, frame⟩ := written_of_disabled (k := k) ok 0x19 tag
    exact ⟨_, exec_rectifierDisable ready handled, reply, others, record, q1, available, frame⟩
  · intro enables
    have handled := doRectifierClear_of_enables (u := heard s) named (by rwa [there])
    refine ⟨fun full => exec_rectifierClear ready (handled.trans (clearEnable_of_full (room.trans full))), fun free => ?_⟩
    obtain ⟨reply, others, record, frame⟩ := written_of_cleared (k := k) ok 0x1A tag (enables.elim (.inr ·.1) (.inl ·.1))
    exact ⟨_, exec_rectifierClear ready (handled.trans (clearEnable_of_room (room.trans free))), reply, others, record,
      q1_of_placed 0x1A tag (.inl rfl) true asCleared, frame⟩
  · intro locked disabled
    obtain ⟨reply, others, record, frame⟩ := written_of_unlocked ok 0x1A tag locked
    exact ⟨_, exec_rectifierClear ready (doRectifierClear_of_disabled named (there ▸ locked) (there ▸ disabled)), reply, others,
      record, frame⟩
  · intro unlocked waits
    obtain ⟨reply, others, record, frame⟩ := written_of_mapRect (k := k) ok 0x1A tag
      (f := fun r => { r with retryCount := 0 }) (fun _ => rfl) (ok.1 k)
    exact ⟨_, exec_rectifierClear ready (doRectifierClear_of_other named (there ▸ unlocked) (there ▸ waits)), reply, others, record,
      frame⟩

end Sys2Proof.Laws
end

section
/-! PROOFS. The battery records: what a change of a battery record, of the test context and an aborted test leave (R79, R86 to
R88). -/
namespace Sys2Proof.Laws
open Sys2Proof Sys2Proof.Machine Sys2Proof.Safety

/-! ## A record and the test context (R67, R81) -/

/-- The changed record of a module reads as it was changed. -/
theorem mapBatt_batt (i : Fin 4) (f : Battery → Battery) (s : State) : (mapBatt i f s).batt i = f (s.batt i) :=
  Vector.getElem_set_self _

/-- Every other module keeps its record. -/
theorem mapBatt_battsKeptBut (i : Fin 4) (f : Battery → Battery) (s : State) : battsKeptBut i s (mapBatt i f s) :=
  fun j h => Vector.getElem_set_ne i.isLt j.isLt fun e => h (Fin.ext e.symm)

theorem mapTest_changesOnly (f : TestContext → TestContext) (s : State) : changesOnly [.bmn] s (mapTest f s) :=
  (mapTest_acts f s).changesOnly (.inr rfl)

/-- Turning a module to a state, which it may be in already, changes its record so, and posts (R79). -/
theorem turnBatt_bmn (i : Fin 4) (state : BatteryState) (cause : BatteryCause) (s : State) :
    (turnBatt i state cause s).bmn = (mapBatt i (fun b => { b with state := state }) s).bmn := by
  unfold turnBatt
  dsimp only
  split
  · next already =>
    have same : { s.batt i with state := state } = s.batt i := by rw [← already]
    show s.bmn = { s.bmn with batts := s.bmn.batts.set i { s.batt i with state := state } }
    rw [same, State.batt]
    exact congrArg (fun v => { s.bmn with batts := v }) (Vector.set_getElem_self i.isLt).symm
  · rfl

/-! ## The room in Q1 for a release (R86) -/

/-- With no command in flight, Q1 has room while it holds fewer than 64 records (R169). -/
theorem roomInQ1_of_free {s : State} (free : s.ulc.transaction = none) : s.roomInQ1 = decide (s.ulc.q1.length < 64) := by
  simp [State.roomInQ1, Ulc.q1Load, Ulc.inFlight, free]

/-- The release of the load, where Q1 has room: one TEST_LOAD OFF at its tail. -/
theorem releaseLoad_of_room {i : Fin 4} {s : State} (room : s.roomInQ1 = true) : releaseLoad i s =
    (mapTest (fun t => { t with releaseOwed := false }) s).mapUlc fun u =>
      { u with q1 := u.q1 ++ [newCommand (.battery i) .testLoadOff none .bmn] } := if_pos room

/-- Where it has none the release is owed. -/
theorem releaseLoad_of_full {i : Fin 4} {s : State} (full : s.roomInQ1 = false) : releaseLoad i s =
    mapTest (fun t => { t with releaseOwed := true }) s := if_neg (by rw [full]; decide)

/-- Releasing the load changes the test context's owed release and Q1 alone. -/
theorem releaseLoad_frame (i : Fin 4) (s : State) : changesOnly [.bmn, .ulc] s (releaseLoad i s) ∧
    (∃ owed, (releaseLoad i s).bmn = { s.bmn with test := { s.bmn.test with releaseOwed := owed } }) ∧
    ∃ calls, (releaseLoad i s).ulc = { s.ulc with q1 := calls } := by
  cases room : s.roomInQ1 with
  | true =>
    rw [releaseLoad_of_room room]
    exact ⟨changesOnly_trans (changesOnly_up (mapTest_changesOnly _ s)) (changesOnly_up (mapUlc_changesOnly ..)), ⟨_, rfl⟩, _, rfl⟩
  | false =>
    rw [releaseLoad_of_full room]
    exact ⟨changesOnly_up (mapTest_changesOnly _ s), ⟨_, rfl⟩, _, rfl⟩

/-! ## The abort of a running test (R87, R88) -/

/-- The result of an aborted test. -/
def abortRecord (cause : AbortCause) : TestRecord := ⟨.aborted, some cause, none, none⟩

/-- An aborted test before its load is released: the module turned to its state and the result kept, both posted, the pending result
discarded (R87). -/
def abortReported (i : Fin 4) (cause : AbortCause) (state : BatteryState) (stateCause : BatteryCause) (s : State) : State :=
  postResult i (abortRecord cause) (turnBatt i state stateCause (mapTest (fun t => { t with pending := none }) s))

/-- The abort of a running test: its report, and then the release that its phase and cause call for. -/
theorem abortTest_of_running {i : Fin 4} {s : State} (module : s.bmn.test.module = some i) (running : s.bmn.test.phase.running = true)
    (cause : AbortCause) (state : BatteryState) (stateCause : BatteryCause) : abortTest cause state stateCause s =
      if cause.noRelease then testIdle (abortReported i cause state stateCause s)
      else releaseAfterAbort i s.bmn.test.phase (abortReported i cause state stateCause s) := by
  simp only [abortTest, module, running, if_true]
  rfl

/-- With no test running there is nothing to abort. -/
theorem abortTest_of_not_running {s : State} (idle : ∀ i, s.bmn.test.module = some i → s.bmn.test.phase.running = false)
    (cause : AbortCause) (state : BatteryState) (stateCause : BatteryCause) : abortTest cause state stateCause s = s := by
  unfold abortTest
  split
  · next i module => exact if_neg (by rw [idle i module]; decide)
  · rfl

section
variable (i : Fin 4) (cause : AbortCause) (state : BatteryState) (stateCause : BatteryCause) (s : State)

/-- What the report of an abort makes of the Battery Monitor. -/
theorem abortReported_bmn : (abortReported i cause state stateCause s).bmn =
    (mapBatt i (fun b => { b with state := state, latest := some (abortRecord cause) })
      (mapTest (fun t => { t with pending := none }) s)).bmn := by
  have kept (m : Bmn) : (mapBatt i (fun b => { b with latest := some (abortRecord cause) }) { s with bmn := m }).bmn =
      { m with batts := m.batts.set i { m.batts[i] with latest := some (abortRecord cause) } } := rfl
  refine (kept (turnBatt i state stateCause (mapTest (fun t => { t with pending := none }) s)).bmn).trans ?_
  rw [turnBatt_bmn]
  simp [mapBatt, mapTest]

theorem abortReported_batt : (abortReported i cause state stateCause s).batt i =
    { s.batt i with state := state, latest := some (abortRecord cause) } := by
  rw [State.batt, abortReported_bmn]
  exact mapBatt_batt i _ _

theorem abortReported_battsKeptBut : battsKeptBut i s (abortReported i cause state stateCause s) := by
  intro j h
  rw [State.batt, abortReported_bmn]
  exact mapBatt_battsKeptBut i _ _ j h

theorem abortReported_test : (abortReported i cause state stateCause s).bmn.test = { s.bmn.test with pending := none } := by
  rw [abortReported_bmn]
  rfl

theorem abortReported_lastBridge : (abortReported i cause state stateCause s).bmn.lastBridge = s.bmn.lastBridge := by
  rw [abortReported_bmn]
  rfl

/-- The report of an abort changes the Battery Monitor and posts. -/
theorem abortReported_acts : Acts [.bmn] s (abortReported i cause state stateCause s) :=
  (postResult_acts ..).after ((turnBatt_acts ..).after (mapTest_acts _ s))
end

end Sys2Proof.Laws
end

section
/-! PROOFS. The calls of the Unit Link: how a transaction ends (R159), what passing over the poll leaves (R166), and the outcomes
of MODULE and TEST_LOAD calls (R39, R42, R84 to R88). -/
namespace Sys2Proof.Laws
open Sys2Proof Sys2Proof.Machine Sys2Proof.Safety

/-! ## Passing over the poll (R164, R166, R167) -/

/-- The Unit Link Controller with its place in the poll put aside: the cycle, the cursor and the event round. -/
def besidesPoll (u : Ulc) : Ulc :=
  { u with cycleRunning := false, cursor := 0, startPending := false, current := none, toRead := none, stack := [] }

theorem endCycle_besidesPoll (u : Ulc) : besidesPoll u.endCycle = besidesPoll u := by
  unfold Ulc.endCycle
  dsimp only
  split <;> rfl

theorem dropRange_besidesPoll (u : Ulc) : besidesPoll u.dropRange = besidesPoll u := by
  unfold Ulc.dropRange
  split <;> rfl

/-- Passing over an entry changes the place in the poll alone. -/
theorem passOver_besidesPoll {table : List PollEntry} {u v : Ulc} (h : u.passOver table = some v) :
    besidesPoll v = besidesPoll u := by
  unfold Ulc.passOver at h
  split at h
  · split at h
    · obtain rfl := Option.some.inj h
      exact endCycle_besidesPoll u
    · split at h
      · obtain rfl := Option.some.inj h
        rfl
      · exact absurd h nofun
    · split at h
      · split at h
        · obtain rfl := Option.some.inj h
          exact dropRange_besidesPoll u
        · exact absurd h nofun
      · exact absurd h nofun
  · exact absurd h nofun

/-- So does passing over all that needs no transaction. -/
theorem settle_besidesPoll (table : List PollEntry) (fuel : Nat) (u : Ulc) : besidesPoll (u.settle table fuel) = besidesPoll u := by
  induction fuel generalizing u with
  | zero => rfl
  | succ fuel ih =>
    unfold Ulc.settle
    split
    · next v passed => exact (ih v).trans (passOver_besidesPoll passed)
    · rfl

theorem settlePoll_besidesPoll (s : State) : besidesPoll (settlePoll s).ulc = besidesPoll s.ulc :=
  settle_besidesPoll ..

theorem settlePoll_line (s : State) : (settlePoll s).ulc.line = s.ulc.line := (congrArg Ulc.line (settlePoll_besidesPoll s) :)

theorem settlePoll_transaction (s : State) : (settlePoll s).ulc.transaction = s.ulc.transaction :=
  (congrArg Ulc.transaction (settlePoll_besidesPoll s) :)

theorem settlePoll_q0 (s : State) : (settlePoll s).ulc.q0 = s.ulc.q0 := (congrArg Ulc.q0 (settlePoll_besidesPoll s) :)

theorem settlePoll_q1 (s : State) : (settlePoll s).ulc.q1 = s.ulc.q1 := (congrArg Ulc.q1 (settlePoll_besidesPoll s) :)

theorem settlePoll_changesOnly (s : State) : changesOnly [.ulc] s (settlePoll s) := mapUlc_changesOnly _ s

theorem releaseLine_changesOnly (s : State) : changesOnly [.ulc] s (releaseLine s) := mapUlc_changesOnly _ s

/-! ## The end of a transaction (R159, R172) -/

theorem endTransaction_of_some {s : State} {t : Transaction} (h : s.ulc.transaction = some t) (j : Judgement)
    (jabber : Option JabberCause) : endTransaction j jabber s = settlePoll (transactionOutcome t j jabber (releaseLine s)) := by
  simp only [endTransaction, h]

/-- An answer that has ended is judged by its transaction. -/
theorem answerComplete_of_answer {s : State} {t : Transaction} (line : s.ulc.line = .answer) (h : s.ulc.transaction = some t)
    (chars : List LineChar) :
    answerComplete chars s = settlePoll (transactionOutcome t (t.judge chars) none (releaseLine s)) := by
  simp only [answerComplete, line, h]
  exact endTransaction_of_some h _ _

/-- A transaction left unanswered ends with no good answer, and names no jabber. -/
theorem exec_of_unanswered {s : State} {t : Transaction} {c : Instr} (h : s.ulc.transaction = some t) (u : unanswered s t c) :
    ∃ j, (∀ a, j ≠ .good a) ∧ exec c s = .next (settlePoll (transactionOutcome t j none (releaseLine s))) := by
  rcases u with ⟨rfl, line⟩ | ⟨rfl, line⟩ | ⟨chars, rfl, line, bad⟩
  · exact ⟨.noAnswer, nofun, congrArg Host.Outcome.next ((if_pos line).trans (endTransaction_of_some h _ _))⟩
  · exact ⟨.bad, nofun, congrArg Host.Outcome.next ((if_pos line).trans (endTransaction_of_some h _ _))⟩
  · exact ⟨.bad, nofun, congrArg Host.Outcome.next (bad ▸ answerComplete_of_answer line h chars)⟩

/-- A command answered ACK is completed as acknowledged (R172). -/
theorem exec_of_callAcked {s : State} {cmd : CommandRecord} {c : Instr} (h : callAcked s cmd c) :
    exec c s = .next (settlePoll (completeCommand cmd .acknowledged (releaseLine s))) := by
  obtain ⟨tr, line, chars, a, rfl, good, ack⟩ := h
  refine congrArg Host.Outcome.next ((answerComplete_of_answer line tr chars).trans ?_)
  simp only [good, transactionOutcome, commandOutcome, ack, if_true]

/-- A command that fails is completed as failed, with the outcome that its cause code names (R172, R201). -/
theorem exec_of_callFails {s : State} {cmd : CommandRecord} {c : Instr} {cause : Nat} (h : callFails s cmd c cause) :
    ∃ o, (o = .failedNak ∨ o = .failedRetries) ∧ o.causeCode = cause ∧
      exec c s = .next (settlePoll (completeCommand cmd o (releaseLine s))) := by
  obtain ⟨tr, ⟨rfl, line, chars, a, rfl, good, nak⟩ | ⟨rfl, silent, last⟩⟩ := h
  · refine ⟨.failedNak, .inl rfl, rfl, congrArg Host.Outcome.next ((answerComplete_of_answer line tr chars).trans ?_)⟩
    simp only [good, transactionOutcome, commandOutcome, nak]
    rfl
  · obtain ⟨j, notGood, next⟩ := exec_of_unanswered tr silent
    refine ⟨.failedRetries, .inr rfl, rfl, next.trans ?_⟩
    have failed : commandUnanswered cmd (releaseLine s) = completeCommand cmd .failedRetries (releaseLine s) :=
      if_neg (Nat.not_lt.2 last)
    cases j with
    | good a => exact absurd rfl (notGood a)
    | bad | noAnswer => simp only [transactionOutcome, commandOutcome, failed]

/-- Passing over the poll keeps the line in GUARD with no transaction, as the end of a transaction leaves it. -/
theorem settlePoll_guarded {v : State} (line : v.ulc.line = .guarded) (transaction : v.ulc.transaction = none) :
    (settlePoll v).ulc.line = .guarded ∧ (settlePoll v).ulc.transaction = none :=
  ⟨(settlePoll_line v).trans line, (settlePoll_transaction v).trans transaction⟩

/-- What a command's outcome changes besides the Unit Link Controller is all that the end of its transaction changes. -/
theorem changesOnly_of_released {bs : List Block} {s v : State} (h : changesOnly bs (releaseLine s) v)
    (link : bs.contains .ulc = true := by decide) : changesOnly bs s (settlePoll v) :=
  have link : [Block.ulc].all (bs.contains ·) = true := by simpa using link
  changesOnly_trans (changesOnly_up (releaseLine_changesOnly s) link)
    (changesOnly_trans h (changesOnly_up (settlePoll_changesOnly v) link))

/-! ## The outcomes of MODULE calls (R39, R42) -/

section
variable {k : Fin 6} {s : State}

/-- While the contributions stand as they should, a changed record that keeps the contribution of its state reads as changed. -/
theorem mapRect_rect_of_formed {f : Rectifier → Rectifier} (formed : (f (s.rect k)).contribution =
    contributionFor s.cfg.rectifierRating[k] (f (s.rect k)).state (f (s.rect k)).derate) :
    (mapRect k f s).rect k = f (s.rect k) :=
  (mapRect_rect k f s).trans (contributed_of_eq formed)

theorem completeCommand_of_module {cmd : CommandRecord} (target : cmd.target = .rectifier k)
    (kind : cmd.kind = .enable ∨ cmd.kind = .disable) (o : CallOutcome) (s : State) :
    completeCommand cmd o s = moduleOutcome k cmd.kind cmd.retry o s := by
  rcases kind with e | e <;> simp only [completeCommand, target, e]

/-- An acknowledged MODULE call acts as a retry's ENABLE in ENABLING, and not else. -/
theorem moduleOutcome_of_acked (kind : CommandKind) (retry : Bool) : moduleOutcome k kind retry .acknowledged s =
    if retry = true ∧ (s.rect k).state = .faulted ∧ (s.rect k).retryPhase = some .enabling then
      if s.fed k then mapRect k (fun r => { r with retryPhase := some .trial, retryTimer := some s.cfg.retryDelayMs }) s
      else mapRect k (fun r => { r with retryPhase := some .due, retryTimer := none }) s
    else s := if_congr (and_congr_right fun _ => isRetrying_iff s k .enabling) rfl rfl

/-- A failed MODULE call acts as a retry's in ENABLING, or is posted where it is none. -/
theorem moduleOutcome_of_failed (kind : CommandKind) (retry : Bool) {o : CallOutcome} (failed : o = .failedNak ∨ o = .failedRetries) :
    moduleOutcome k kind retry o s =
      if retry then (if s.isRetrying k .enabling then retryFailed k s else s) else moduleCallFailed k kind o s := by
  rcases failed with rfl | rfl <;> rfl

/-- What an acknowledged MODULE call leaves (R39, R42). -/
theorem moduleOutcome_acked (ok : CapacityOk s) (kind : CommandKind) (retry : Bool) :
    let t := moduleOutcome k kind retry .acknowledged s
    changesOnly [.rsv] s t ∧ rectsKeptBut k s t ∧ t.rect k =
      if retry = true ∧ (s.rect k).state = .faulted ∧ (s.rect k).retryPhase = some .enabling then
        if s.fed k = true then { s.rect k with retryPhase := some .trial, retryTimer := some s.cfg.retryDelayMs }
        else { s.rect k with retryPhase := some .due, retryTimer := none }
      else s.rect k := by
  dsimp only
  rw [moduleOutcome_of_acked]
  split
  · split
    · exact ⟨mapRect_changesOnly rfl, mapRect_rectsKeptBut ok _, mapRect_rect_of_formed (ok.1 k)⟩
    · exact ⟨mapRect_changesOnly rfl, mapRect_rectsKeptBut ok _, mapRect_rect_of_formed (ok.1 k)⟩
  · exact ⟨changesOnly_refl .., fun _ _ => rfl, rfl⟩

/-- What the failure of a retry leaves (R39, R40). -/
theorem retryFailed_of_faulted (ok : CapacityOk s) (faulted : (s.rect k).state = .faulted) : (retryFailed k s).rect k =
    if (s.rect k).retryCount < s.cfg.retryLimit then
      { s.rect k with retryPhase := some .delay, retryTimer := some s.cfg.retryDelayMs }
    else { s.rect k with state := .lockedOut, retryPhase := none, retryTimer := none } := by
  rw [retryFailed_rect]
  split
  · exact contributed_of_eq (ok.1 k)
  · exact contributed_of_eq (contribution_of_faulted ok (.inl faulted))

/-- What a failed MODULE call leaves (R39, R42). -/
theorem moduleOutcome_failed (ok : CapacityOk s) (kind : CommandKind) (retry : Bool) {o : CallOutcome}
    (failed : o = .failedNak ∨ o = .failedRetries) :
    let t := moduleOutcome k kind retry o s
    let enabling := retry = true ∧ (s.rect k).state = .faulted ∧ (s.rect k).retryPhase = some .enabling
    changesOnly [.rsv, .nq] s t ∧ rectsKeptBut k s t ∧
      (enabling → t.rect k = if (s.rect k).retryCount < s.cfg.retryLimit then
          { s.rect k with retryPhase := some .delay, retryTimer := some s.cfg.retryDelayMs }
        else { s.rect k with state := .lockedOut, retryPhase := none, retryTimer := none }) ∧
      (¬ enabling → t.rect k = s.rect k) ∧ (retry = true → ¬ enabling → t.nq = s.nq) ∧
      (retry = false →
        t.nq = (post .rectifierCallFailed k (u8 (if kind = .enable then 0 else 1) ++ u8 o.causeCode) s).nq) := by
  dsimp only
  rw [moduleOutcome_of_failed kind retry failed]
  cases retry with
  | false =>
    exact ⟨(post_acts ..).up.changesOnly (.inl (by decide)), fun _ _ => rfl, fun h => Bool.noConfusion h.1, fun _ => rfl,
      fun h => Bool.noConfusion h, fun _ => rfl⟩
  | true =>
    rw [if_pos rfl]
    by_cases h : s.isRetrying k .enabling = true
    · rw [if_pos h]
      have enabling := (isRetrying_iff s k .enabling).1 h
      exact ⟨(retryFailed_acts k s).up.changesOnly (.inl (by decide)), mapRect_rectsKeptBut ok _,
        fun _ => retryFailed_of_faulted ok enabling.1, fun none => absurd ⟨rfl, enabling⟩ none,
        fun _ none => absurd ⟨rfl, enabling⟩ none, fun h => Bool.noConfusion h⟩
    · rw [if_neg h]
      exact ⟨changesOnly_refl .., fun _ _ => rfl, fun enabling => absurd ((isRetrying_iff ..).2 enabling.2) h, fun _ => rfl,
        fun _ _ => rfl, fun h => Bool.noConfusion h⟩

/-- A change of no more than the records and the notices leaves the Unit Link Controller. -/
theorem changesOnly_ulc {bs : List Block} {s t : State} (h : changesOnly bs s t) (out : bs.contains .ulc = false := by decide) :
    t.ulc = s.ulc := h.2.2 .ulc (by simpa using out)
end

/-! ## The outcomes of TEST_LOAD calls (R84 to R88) -/

theorem completeCommand_of_testLoad {i : Fin 4} {cmd : CommandRecord} (target : cmd.target = .battery i)
    (kind : cmd.kind = .testLoadOn ∨ cmd.kind = .testLoadOff) (o : CallOutcome) (s : State) :
    completeCommand cmd o s = testLoadOutcome i cmd.kind o s := by
  rcases kind with e | e <;> simp only [completeCommand, target, e]

section
variable {i : Fin 4} {s : State}

/-- A TEST_LOAD call of a module on which no context stands acts on nothing (log entry 22). -/
theorem testLoadOutcome_of_other (other : s.bmn.test.module ≠ some i) (kind : CommandKind) (o : CallOutcome) :
    testLoadOutcome i kind o s = s := if_neg other

section
variable (module : s.bmn.test.module = some i)
include module

theorem testLoadOutcome_loading_acked (phase : s.bmn.test.phase = .loading) : testLoadOutcome i .testLoadOn .acknowledged s =
    mapTest (fun t => { t with loadAcked := true, phase := .settle, count := 0 }) s := by
  simp only [testLoadOutcome, module, phase, if_true]

theorem testLoadOutcome_releasing_acked (phase : s.bmn.test.phase = .releasing) : testLoadOutcome i .testLoadOff .acknowledged s =
    mapTest (fun t => { t with phase := .releaseSettle, count := 0 }) s := by
  simp only [testLoadOutcome, module, phase, if_true]

theorem testLoadOutcome_closingOn_acked (phase : s.bmn.test.phase = .closing) : testLoadOutcome i .testLoadOn .acknowledged s =
    releaseLoad i (mapTest (fun t => { t with loadAcked := true }) s) := by
  simp only [testLoadOutcome, module, phase, if_true]

theorem testLoadOutcome_closingOff_acked (phase : s.bmn.test.phase = .closing) :
    testLoadOutcome i .testLoadOff .acknowledged s = testIdle s := by
  simp only [testLoadOutcome, module, phase, if_true]

variable {o : CallOutcome} (failed : o = .failedNak ∨ o = .failedRetries)
include failed

theorem testLoadOutcome_loading_failed (phase : s.bmn.test.phase = .loading) :
    testLoadOutcome i .testLoadOn o s = abortOnline .callFailed s := by
  rcases failed with rfl | rfl <;> simp only [testLoadOutcome, module, phase, if_true] <;> rfl

theorem testLoadOutcome_releasing_failed (phase : s.bmn.test.phase = .releasing) :
    testLoadOutcome i .testLoadOff o s = abortOnline .releaseFailed s := by
  rcases failed with rfl | rfl <;> simp only [testLoadOutcome, module, phase, if_true] <;> rfl

theorem testLoadOutcome_closingOn_failed (phase : s.bmn.test.phase = .closing) : testLoadOutcome i .testLoadOn o s = testIdle s := by
  rcases failed with rfl | rfl <;> simp only [testLoadOutcome, module, phase, if_true] <;> rfl

theorem testLoadOutcome_closingOff_failed (phase : s.bmn.test.phase = .closing) :
    testLoadOutcome i .testLoadOff o s = testIdle (post .testReleaseFailed i [] s) := by
  rcases failed with rfl | rfl <;> simp only [testLoadOutcome, module, phase, if_true] <;> rfl
end

/-- An acknowledged TEST_LOAD call changes the test context and Q1 alone. -/
theorem testLoadOutcome_acked_frame (kind : CommandKind) :
    let t := testLoadOutcome i kind .acknowledged s
    changesOnly [.bmn, .ulc] s t ∧ t.bmn.batts = s.bmn.batts ∧ ∃ calls, t.ulc = { s.ulc with q1 := calls } := by
  have context (f : TestContext → TestContext) : changesOnly [.bmn, .ulc] s (mapTest f s) := changesOnly_up (mapTest_changesOnly f s)
  simp only [testLoadOutcome, eq_self, if_true]
  split
  · split
    · exact ⟨context _, rfl, _, rfl⟩
    · obtain ⟨frame, ⟨owed, bmn⟩, calls⟩ := releaseLoad_frame i (mapTest (fun t => { t with loadAcked := true }) s)
      exact ⟨changesOnly_trans (context _) frame, (congrArg Bmn.batts bmn :), calls⟩
    · exact ⟨context _, rfl, _, rfl⟩
    · exact ⟨context _, rfl, _, rfl⟩
    · exact ⟨changesOnly_refl .., rfl, _, rfl⟩
  · exact ⟨changesOnly_refl .., rfl, _, rfl⟩

/-- A call that failed and was the last of its test: the abort leaves the module ONLINE and the context IDLE (R87, R88). -/
theorem abortOnline_of_noRelease (module : s.bmn.test.module = some i) (running : s.bmn.test.phase.running = true)
    {cause : AbortCause} (last : cause.noRelease = true) :
    abortOnline cause s = testIdle (abortReported i cause .online .testEnd s) :=
  (abortTest_of_running module running cause .online .testEnd).trans (if_pos last)

/-- What such an abort leaves. -/
theorem abortOnline_frame (module : s.bmn.test.module = some i) (running : s.bmn.test.phase.running = true)
    {cause : AbortCause} (last : cause.noRelease = true) :
    let t := abortOnline cause s
    (t.batt i).state = .online ∧ (t.batt i).latest = some (abortRecord cause) ∧ (t.batt i).resistance = (s.batt i).resistance ∧
      battsKeptBut i s t ∧ Acts [.bmn] s t := by
  rw [abortOnline_of_noRelease module running last]
  have record := abortReported_batt i cause .online .testEnd s
  have others := abortReported_battsKeptBut i cause .online .testEnd s
  exact ⟨(congrArg Battery.state record :), (congrArg Battery.latest record :), (congrArg Battery.resistance record :), others,
    (testIdle_acts _).after (abortReported_acts ..)⟩

/-- A failed TEST_LOAD call leaves the Unit Link Controller: no release is placed (R88). -/
theorem testLoadOutcome_failed_ulc (kind : CommandKind) {o : CallOutcome} (failed : o = .failedNak ∨ o = .failedRetries) :
    (testLoadOutcome i kind o s).ulc = s.ulc := by
  have notAcked : o ≠ .acknowledged := by rcases failed with rfl | rfl <;> decide
  have fails : o.failed = true := by rcases failed with rfl | rfl <;> rfl
  simp only [testLoadOutcome, if_neg notAcked, if_pos fails]
  split
  · next module =>
    split
    · next phase =>
      exact (abortOnline_frame module (by rw [phase]; rfl) rfl).2.2.2.2.ulc
    · rfl
    · next phase =>
      exact (abortOnline_frame module (by rw [phase]; rfl) rfl).2.2.2.2.ulc
    · rfl
    · rfl
  · rfl
end

/-! ### At the end of the call's transaction -/

section
variable {i : Fin 4} {s : State}

/-- With the line released and no command in flight, Q1 has room for the TEST_LOAD OFF, or the release is owed (R86). -/
theorem releaseLoad_of_released (i : Fin 4) (f : TestContext → TestContext) (s : State) :
    let t := releaseLoad i (mapTest f (releaseLine s))
    t.bmn.test = { f s.bmn.test with releaseOwed := decide (64 ≤ s.ulc.q1.length) } ∧
      t.ulc.q1 = if s.ulc.q1.length < 64 then s.ulc.q1 ++ [newCommand (.battery i) .testLoadOff none .bmn] else s.ulc.q1 := by
  have room : (mapTest f (releaseLine s)).roomInQ1 = decide (s.ulc.q1.length < 64) := roomInQ1_of_free rfl
  dsimp only
  split
  · next short =>
    rw [releaseLoad_of_room (room.trans (decide_eq_true short)), decide_eq_false (Nat.not_le.2 short)]
    exact ⟨rfl, rfl⟩
  · next full =>
    rw [releaseLoad_of_full (room.trans (decide_eq_false full)), decide_eq_true (Nat.not_lt.1 full)]
    exact ⟨rfl, rfl⟩
end

/-- The end of a MODULE call, by its outcome at the rectifier (R39, R42). -/
theorem moduleCallOutcomes {s : State} {cmd : CommandRecord} {k : Fin 6} {c : Instr} (target : cmd.target = .rectifier k)
    (ok : CapacityOk s) (kind : cmd.kind = .enable ∨ cmd.kind = .disable) :
    let enabling := cmd.retry = true ∧ (s.rect k).state = .faulted ∧ (s.rect k).retryPhase = some .enabling
    (callAcked s cmd c → ∃ t, exec c s = .next t ∧ t.ulc.line = .guarded ∧ t.ulc.transaction = none ∧
      changesOnly [.rsv, .ulc] s t ∧ rectsKeptBut k s t ∧ t.rect k =
        if enabling then
          if s.fed k = true then { s.rect k with retryPhase := some .trial, retryTimer := some s.cfg.retryDelayMs }
          else { s.rect k with retryPhase := some .due, retryTimer := none }
        else s.rect k) ∧
    ∀ cause, callFails s cmd c cause → ∃ t, exec c s = .next t ∧ t.ulc.line = .guarded ∧ t.ulc.transaction = none ∧
      changesOnly [.rsv, .ulc, .nq] s t ∧ rectsKeptBut k s t ∧
      (enabling → t.rect k = if (s.rect k).retryCount < s.cfg.retryLimit then
          { s.rect k with retryPhase := some .delay, retryTimer := some s.cfg.retryDelayMs }
        else { s.rect k with state := .lockedOut, retryPhase := none, retryTimer := none }) ∧
      (¬ enabling → t.rect k = s.rect k) ∧ (cmd.retry = true → ¬ enabling → t.nq = s.nq) ∧
      (cmd.retry = false →
        t.nq = (post .rectifierCallFailed k (u8 (if cmd.kind = .enable then 0 else 1) ++ u8 cause) s).nq) := by
  have ok' : CapacityOk (releaseLine s) := ok
  refine ⟨fun acked => ?_, fun cause fails => ?_⟩
  · have next := exec_of_callAcked acked
    rw [completeCommand_of_module target kind] at next
    obtain ⟨frame, others, record⟩ := moduleOutcome_acked (k := k) ok' cmd.kind cmd.retry
    have calls := changesOnly_ulc frame
    obtain ⟨line, transaction⟩ := settlePoll_guarded (congrArg Ulc.line calls :) (congrArg Ulc.transaction calls :)
    exact ⟨_, next, line, transaction, changesOnly_of_released (changesOnly_up frame), others, record⟩
  · obtain ⟨o, failed, rfl, next⟩ := exec_of_callFails fails
    rw [completeCommand_of_module target kind] at next
    obtain ⟨frame, others, retried, kept, quiet, posted⟩ := moduleOutcome_failed (k := k) ok' cmd.kind cmd.retry failed
    have calls := changesOnly_ulc frame
    obtain ⟨line, transaction⟩ := settlePoll_guarded (congrArg Ulc.line calls :) (congrArg Ulc.transaction calls :)
    exact ⟨_, next, line, transaction, changesOnly_of_released (changesOnly_up frame), others, retried, kept, quiet, posted⟩

/-- What the abort of a test whose call failed leaves at the end of the call's transaction (R87). -/
theorem aborted_of_released {i : Fin 4} {s : State} (module : s.bmn.test.module = some i) (running : s.bmn.test.phase.running = true)
    {cause : AbortCause} (last : cause.noRelease = true) :
    let t := settlePoll (abortOnline cause (releaseLine s))
    (t.bmn.test.phase = .idle ∧ t.bmn.test.module = none ∧ t.bmn.test.releaseOwed = false) ∧ (t.batt i).state = .online ∧
      (t.batt i).latest = some (abortRecord cause) ∧ (t.batt i).resistance = (s.batt i).resistance ∧ battsKeptBut i s t ∧
      changesOnly [.bmn, .ulc, .nq] s t := by
  have module' : (releaseLine s).bmn.test.module = some i := module
  have running' : (releaseLine s).bmn.test.phase.running = true := running
  obtain ⟨online, latest, resistance, others, acts⟩ := abortOnline_frame module' running' last
  have idle := abortOnline_of_noRelease module' running' last
  refine ⟨?_, online, latest, resistance, others, changesOnly_of_released (acts.up.changesOnly (.inl (by decide)))⟩
  rw [idle]
  exact ⟨rfl, rfl, rfl⟩

/-- The end of a TEST_LOAD call that is acknowledged (R84, R86, R88). -/
theorem testLoadCallAcked {s : State} {cmd : CommandRecord} {i : Fin 4} {c : Instr} (target : cmd.target = .battery i)
    (kind : cmd.kind = .testLoadOn ∨ cmd.kind = .testLoadOff) (acked : callAcked s cmd c) :
    ∃ t, exec c s = .next t ∧ t.ulc.line = .guarded ∧ t.ulc.transaction = none ∧ t.ulc.q0 = s.ulc.q0 ∧
      t.bmn.batts = s.bmn.batts ∧ changesOnly [.bmn, .ulc] s t ∧
      (s.bmn.test.module ≠ some i → t.bmn = s.bmn ∧ t.ulc.q1 = s.ulc.q1) ∧
      (s.bmn.test.module = some i →
        (cmd.kind = .testLoadOn → s.bmn.test.phase = .loading → t.ulc.q1 = s.ulc.q1 ∧
          t.bmn.test = { s.bmn.test with loadAcked := true, phase := .settle, count := 0 }) ∧
        (cmd.kind = .testLoadOn → s.bmn.test.phase = .closing →
          t.bmn.test = { s.bmn.test with loadAcked := true, releaseOwed := decide (64 ≤ s.ulc.q1.length) } ∧
          t.ulc.q1 = if s.ulc.q1.length < 64 then s.ulc.q1 ++ [newCommand (.battery i) .testLoadOff none .bmn] else s.ulc.q1) ∧
        (cmd.kind = .testLoadOff → s.bmn.test.phase = .releasing → t.ulc.q1 = s.ulc.q1 ∧
          t.bmn.test = { s.bmn.test with phase := .releaseSettle, count := 0 }) ∧
        (cmd.kind = .testLoadOff → s.bmn.test.phase = .closing →
          (t.bmn.test.phase = .idle ∧ t.bmn.test.module = none ∧ t.bmn.test.releaseOwed = false) ∧ t.ulc.q1 = s.ulc.q1)) := by
  have next := exec_of_callAcked acked
  rw [completeCommand_of_testLoad target kind] at next
  obtain ⟨frame, batts, calls, ulc⟩ := testLoadOutcome_acked_frame (i := i) (s := releaseLine s) cmd.kind
  obtain ⟨line, transaction⟩ := settlePoll_guarded (congrArg Ulc.line ulc :) (congrArg Ulc.transaction ulc :)
  refine ⟨_, next, line, transaction, (settlePoll_q0 _).trans (congrArg Ulc.q0 ulc :), batts, changesOnly_of_released frame,
    fun other => ?_, fun module => ⟨fun on phase => ?_, fun on phase => ?_, fun off phase => ?_, fun off phase => ?_⟩⟩
  · rw [testLoadOutcome_of_other (s := releaseLine s) other]
    exact ⟨rfl, settlePoll_q1 _⟩
  · rw [on, testLoadOutcome_loading_acked (s := releaseLine s) module phase]
    exact ⟨settlePoll_q1 _, rfl⟩
  · rw [on, testLoadOutcome_closingOn_acked (s := releaseLine s) module phase]
    obtain ⟨test, q1⟩ := releaseLoad_of_released i (fun t => { t with loadAcked := true }) s
    exact ⟨test, (settlePoll_q1 _).trans q1⟩
  · rw [off, testLoadOutcome_releasing_acked (s := releaseLine s) module phase]
    exact ⟨settlePoll_q1 _, rfl⟩
  · rw [off, testLoadOutcome_closingOff_acked (s := releaseLine s) module phase]
    exact ⟨⟨rfl, rfl, rfl⟩, settlePoll_q1 _⟩

/-- Settles O43: a MODULE call by its outcome at the rectifier, a TEST_LOAD call by its outcome in the phase of the test context. -/
theorem moduleAndTestCallOutcomes : Obligations.ModuleAndTestCallOutcomes := by
  refine ⟨fun s cmd k c target ok kind => moduleCallOutcomes target ok kind,
    fun s cmd i c target kind => ⟨testLoadCallAcked target kind, fun cause fails => ?_⟩⟩
  obtain ⟨o, failed, rfl, next⟩ := exec_of_callFails fails
  rw [completeCommand_of_testLoad target kind] at next
  have calls := testLoadOutcome_failed_ulc (i := i) (s := releaseLine s) cmd.kind failed
  obtain ⟨line, transaction⟩ := settlePoll_guarded (congrArg Ulc.line calls :) (congrArg Ulc.transaction calls :)
  refine ⟨_, next, line, transaction, (settlePoll_q0 _).trans (congrArg Ulc.q0 calls :), (settlePoll_q1 _).trans (congrArg Ulc.q1 calls :),
    fun other => ?_, fun module => ⟨fun on phase => ?_, fun off phase => ?_, fun on phase => ?_, fun off phase => ?_⟩⟩
  · rw [testLoadOutcome_of_other (s := releaseLine s) other]
    exact changesOnly_of_released (changesOnly_refl _ _)
  · rw [on, testLoadOutcome_loading_failed (s := releaseLine s) module failed phase]
    exact aborted_of_released module (by rw [phase]; rfl) rfl
  · rw [off, testLoadOutcome_releasing_failed (s := releaseLine s) module failed phase]
    exact aborted_of_released module (by rw [phase]; rfl) rfl
  · rw [on, testLoadOutcome_closingOn_failed (s := releaseLine s) module failed phase]
    exact ⟨⟨rfl, rfl, rfl⟩, rfl, changesOnly_of_released (changesOnly_up (mapTest_changesOnly ..))⟩
  · rw [off, testLoadOutcome_closingOff_failed (s := releaseLine s) module failed phase]
    have acts : Acts [.bmn, .ulc, .nq] (releaseLine s) (testIdle (post .testReleaseFailed i [] (releaseLine s))) :=
      (testIdle_acts _).after (post_acts ..).up
    exact ⟨⟨rfl, rfl, rfl⟩, rfl, rfl, changesOnly_of_released (acts.changesOnly (.inl (by decide)))⟩

end Sys2Proof.Laws
end

section
/-! PROOFS. The rectifier answers: a polled unit's good STATUS answer (R163), and what that of a rectifier does to its record, by its
class, and to the calls in Q1 (R35 to R37, R39, R42). -/
namespace Sys2Proof.Laws
open Sys2Proof Sys2Proof.Machine Sys2Proof.Safety

/-! ## A polled unit's answer (R163, R166) -/

/-- The state a PRESENT unit's good answer is handed on in: the line released, and no miss counted any more. -/
def answeredPoll (x : UnitId) (s : State) : State :=
  mapUnit x (fun r => { r with presence := .present, misses := 0 }) (releaseLine s)

theorem advancePoll_besidesPoll (s : State) : besidesPoll (advancePoll s).ulc = besidesPoll s.ulc :=
  settlePoll_besidesPoll _

theorem advancePoll_changesOnly (s : State) : changesOnly [.ulc] s (advancePoll s) :=
  changesOnly_trans (mapUlc_changesOnly _ s) (settlePoll_changesOnly _)

/-- A polled PRESENT unit's good answer is handed to the block that owns the unit, and the poll then goes on. -/
theorem exec_of_polled {s : State} {x : UnitId} {chars : List LineChar} {kind : Byte} {payload : List Byte}
    (h : polled s x chars kind payload) :
    ∃ t, exec (.answerComplete chars) s = .next t ∧
      changesOnly [.ulc] (reportStatus false x payload (answeredPoll x s)) t ∧
      besidesPoll t.ulc = besidesPoll (reportStatus false x payload (answeredPoll x s)).ulc := by
  obtain ⟨line, present, live, transaction, good⟩ := h
  have present' : (releaseLine s).presence x = .present := present
  have status : statusOutcome x (.good ⟨x.address, kind, payload⟩) none (releaseLine s) =
      reportStatus false x payload (answeredPoll x s) := by
    simp only [statusOutcome, statusGood, present']
    rfl
  refine ⟨_, congrArg Host.Outcome.next (answerComplete_of_answer line transaction chars), ?_⟩
  simp only [good, transactionOutcome, status]
  cases live with
  | true => exact ⟨changesOnly_trans (advancePoll_changesOnly _) (settlePoll_changesOnly _),
      (settlePoll_besidesPoll _).trans (advancePoll_besidesPoll _)⟩
  | false => exact ⟨settlePoll_changesOnly _, settlePoll_besidesPoll _⟩

/-! ## The record with its answer taken (R35) -/

/-- The state a rectifier's class acts on: the derate code and the fault code taken, the capacity formed again. -/
def takenAnswer (k : Fin 6) (a : RectifierAnswer) (s : State) : State :=
  recomputeCapacity (s.mapRsv fun v => { v with rects := v.rects.set k (v.rects[k].take a) })

theorem takenAnswer_rect (k : Fin 6) (a : RectifierAnswer) (s : State) :
    (takenAnswer k a s).rect k = contributed s.cfg k ((s.rect k).take a) :=
  (recomputeCapacity_rect k _).trans (congrArg (contributed s.cfg k) (Vector.getElem_set_self _))

theorem takenAnswer_rect_of_ne {j k : Fin 6} (a : RectifierAnswer) (s : State) (h : j ≠ k) :
    (takenAnswer k a s).rect j = contributed s.cfg j (s.rect j) :=
  (recomputeCapacity_rect j _).trans (congrArg (contributed s.cfg j)
    (Vector.getElem_set_ne k.isLt j.isLt fun e => h (Fin.ext e.symm)))

/-- Recomputed contributions stand as the states give them (R46). -/
theorem recomputeCapacity_capacityOk (s : State) : CapacityOk (recomputeCapacity s) :=
  ⟨fun j => by rw [recomputeCapacity_rect]; rfl, rfl⟩

/-! ## The class at the record (R35, R37, R39) -/

/-- `t` is `s` with rectifier `k` in the state `st`, its derate code and fault code kept, and every other rectifier as it was. -/
structure TurnedTo (k : Fin 6) (st : RectifierState) (s t : State) : Prop where
  others : rectsKeptBut k s t
  state : (t.rect k).state = st
  derate : (t.rect k).derate = (s.rect k).derate
  lastFault : (t.rect k).lastFault = (s.rect k).lastFault

theorem turnedTo_self {k : Fin 6} {s : State} {st : RectifierState} (state : (s.rect k).state = st) : TurnedTo k st s s :=
  ⟨fun _ _ => rfl, state, rfl, rfl⟩

/-- A change of the record that keeps its two codes turns the module to the state it gives. -/
theorem turnedTo_of_mapRect {k : Fin 6} {f : Rectifier → Rectifier} {s t : State} {st : RectifierState} (ok : CapacityOk s)
    (rsv : t.rsv = (mapRect k f s).rsv) (state : (f (s.rect k)).state = st)
    (derate : (f (s.rect k)).derate = (s.rect k).derate)
    (lastFault : (f (s.rect k)).lastFault = (s.rect k).lastFault) : TurnedTo k st s t := by
  have reads : ∀ j, t.rect j = (mapRect k f s).rect j := fun j => by rw [State.rect, rsv]
  refine ⟨fun j h => (reads j).trans (mapRect_rectsKeptBut ok f j h), ?_, ?_, ?_⟩ <;> rw [reads, mapRect_rect]
  · exact state
  · exact derate
  · exact lastFault

theorem wake_rsv (k : Fin 6) (s : State) : (wake k s).rsv = s.rsv := (wake_acts k s).rsv

theorem withdrawQueued_rsv (pick : CommandRecord → Bool) (s : State) : (withdrawQueued pick s).rsv = s.rsv :=
  (withdrawQueued_acts pick s).rsv


section
variable {r : Rectifier} {limit code : Nat}

theorem rectifierAfter_on (unlocked : r.state ≠ .lockedOut) :
    rectifierAfter r limit code .on = if code = 16 then .online else .derated := by
  simp [rectifierAfter]

theorem rectifierAfter_offDisabled (unlocked : r.state ≠ .lockedOut) : rectifierAfter r limit code .offDisabled = .standby := by
  simp [rectifierAfter]

theorem rectifierAfter_off (unlocked : r.state ≠ .lockedOut) (sound : r.state ≠ .faulted) :
    rectifierAfter r limit code .off = .standby := by
  simp [rectifierAfter]

theorem rectifierAfter_fault (unlocked : r.state ≠ .lockedOut) (sound : r.state ≠ .faulted) :
    rectifierAfter r limit code .fault = faultEntered r.retryCount limit := by
  simp [rectifierAfter]
end

/-- Fault entry locks out a module at RetryLimit, and takes any other to FAULTED (R37). -/
theorem faultEntry_turns {k : Fin 6} {s : State} (ok : CapacityOk s) :
    TurnedTo k (faultEntered (s.rect k).retryCount s.cfg.retryLimit) s (faultEntry k s) := by
  unfold faultEntered
  refine turnedTo_of_mapRect ok rfl ?_ ?_ ?_
  all_goals
    dsimp only
    split
    · rfl
    · split <;> rfl

/-- A failed retry locks out a module at RetryLimit, and leaves any other FAULTED (R39). -/
theorem retryFailed_turns {k : Fin 6} {s : State} (ok : CapacityOk s) (faulted : (s.rect k).state = .faulted) :
    TurnedTo k (faultEntered (s.rect k).retryCount s.cfg.retryLimit) s (retryFailed k s) := by
  unfold faultEntered
  by_cases below : (s.rect k).retryCount < s.cfg.retryLimit
  · rw [if_neg (Nat.not_le.2 below)]
    refine turnedTo_of_mapRect ok rfl ?_ ?_ ?_ <;> rw [if_pos below]
    · exact faulted
    · rfl
    · rfl
  · rw [if_pos (Nat.not_lt.1 below)]
    refine turnedTo_of_mapRect ok rfl ?_ ?_ ?_ <;> rw [if_neg below] <;> rfl

/-- A good answer's class turns the module to the state that the table of R35 gives it. -/
theorem rectifierClassActs_turns (k : Fin 6) (c : AnswerClass) {s : State} (ok : CapacityOk s) :
    TurnedTo k (rectifierAfter (s.rect k) s.cfg.retryLimit (s.rect k).derate c) s (rectifierClassActs k c s) := by
  unfold rectifierClassActs
  split
  · next locked => exact turnedTo_self (by simp only [rectifierAfter, locked])
  · next faulted =>
    refine turnedTo_of_mapRect ok (withdrawQueued_rsv ..) ?_ rfl rfl
    rw [rectifierAfter_on (by rw [faulted]; decide)]
    rfl
  · next faulted => exact turnedTo_of_mapRect ok rfl (by simp only [rectifierAfter, faulted]) rfl rfl
  · next faulted => exact turnedTo_self (by simp only [rectifierAfter, faulted])
  · next faulted =>
    have after : rectifierAfter (s.rect k) s.cfg.retryLimit (s.rect k).derate .fault =
        if (s.rect k).retryPhase = some .trial then faultEntered (s.rect k).retryCount s.cfg.retryLimit else .faulted := by
      simp only [rectifierAfter, faulted]
    rw [after]
    by_cases trial : s.isRetrying k .trial = true
    · rw [if_pos trial, if_pos ((isRetrying_iff ..).1 trial).2]
      exact retryFailed_turns ok faulted
    · rw [if_neg trial, if_neg fun phase => trial ((isRetrying_iff ..).2 ⟨faulted, phase⟩)]
      exact turnedTo_self faulted
  · next standby => exact turnedTo_self (by simp only [rectifierAfter, standby])
  · next standby => exact turnedTo_self (by simp only [rectifierAfter, standby])
  · next unlocked sound => exact turnedTo_of_mapRect ok rfl (rectifierAfter_on unlocked).symm rfl rfl
  · next unlocked sound awake => exact turnedTo_of_mapRect ok rfl (rectifierAfter_offDisabled unlocked).symm rfl rfl
  · next unlocked sound awake => exact turnedTo_of_mapRect ok (wake_rsv ..) (rectifierAfter_off unlocked sound).symm rfl rfl
  · next unlocked sound =>
    rw [rectifierAfter_fault unlocked sound]
    exact faultEntry_turns ok

/-! ## The class at the calls in Q1 (R39, R42) -/

/-- With no command in flight the wake call is placed where Q1 has room and no ENABLE for the module is queued (R42). -/
theorem wake_of_free {k : Fin 6} {s : State} (free : s.ulc.transaction = none) : wake k s =
    if s.ulc.q1.length < 64 ∧ ∀ r ∈ s.ulc.q0 ++ s.ulc.q1, ¬(r.kind = .enable ∧ r.target = .rectifier k) then
      placeModuleCall k .enable false s
    else s := by
  have idle (pick : CommandRecord → Bool) : s.ulc.isInFlight pick = false := by simp [Ulc.isInFlight, Ulc.inFlight, free]
  unfold wake
  dsimp only
  refine if_congr ?_ rfl rfl
  rw [roomInQ1_of_free free, idle]
  simp [Ulc.isQueued, or_imp, forall_and]

/-- The two queues alone, of the Unit Link Controller, differ. -/
def SameButQueues (u v : Ulc) : Prop := ∃ a b, v = { u with q0 := a, q1 := b }

theorem placeModuleCall_sameButQueues (k : Fin 6) (kind : CommandKind) (retry : Bool) (s : State) :
    SameButQueues s.ulc (placeModuleCall k kind retry s).ulc := by
  unfold placeModuleCall
  rw [enqueue_ulc, withdrawQueued_ulc]
  split <;> exact ⟨_, _, rfl⟩

/-- Q1 once a good answer's class has acted, no command being in flight: without the retry's ENABLE where an ON answer ends the retry, and
with the wake call at its tail where an OFF answer places it (R39, R42). -/
def callsAfter (k : Fin 6) (c : AnswerClass) (s : State) : List CommandRecord :=
  if (s.rect k).state = .faulted ∧ c = .on then s.ulc.q1.filter fun r => !isRetryEnableFor k r
  else if ((s.rect k).state ≠ .faulted ∧ (s.rect k).state ≠ .lockedOut ∧ (s.rect k).state ≠ .standby) ∧ c = .off ∧
      s.ulc.q1.length < 64 ∧ ∀ r ∈ s.ulc.q0 ++ s.ulc.q1, ¬(r.kind = .enable ∧ r.target = .rectifier k) then
    (s.ulc.q1.filter fun r => !isModuleCallFor k r) ++ [moduleCall k .enable false]
  else s.ulc.q1

/-- Any other answer leaves Q1 as it is. -/
theorem callsAfter_of_other {k : Fin 6} {c : AnswerClass} {s : State} (retries : ¬((s.rect k).state = .faulted ∧ c = .on))
    (awake : c = .off → (s.rect k).state = .faulted ∨ (s.rect k).state = .lockedOut ∨ (s.rect k).state = .standby) :
    callsAfter k c s = s.ulc.q1 := by
  refine (if_neg retries).trans (if_neg ?_)
  rintro ⟨⟨sound, unlocked, wakes⟩, off, -⟩
  rcases awake off with e | e | e
  · exact sound e
  · exact unlocked e
  · exact wakes e

/-- What a good answer's class makes of the calls, with no command in flight. -/
theorem rectifierClassActs_calls (k : Fin 6) (c : AnswerClass) {s : State} (free : s.ulc.transaction = none) :
    SameButQueues s.ulc (rectifierClassActs k c s).ulc ∧ (rectifierClassActs k c s).ulc.q1 = callsAfter k c s := by
  have kept {c : AnswerClass} {v : State} (ulc : v.ulc = s.ulc) (retries : ¬((s.rect k).state = .faulted ∧ c = .on))
      (awake : c = .off → (s.rect k).state = .faulted ∨ (s.rect k).state = .lockedOut ∨ (s.rect k).state = .standby) :
      SameButQueues s.ulc v.ulc ∧ v.ulc.q1 = callsAfter k c s :=
    ⟨⟨_, _, ulc⟩, (congrArg Ulc.q1 ulc).trans (callsAfter_of_other retries awake).symm⟩
  unfold rectifierClassActs
  split
  · next locked => exact kept rfl (fun h => nomatch locked.symm.trans h.1) fun _ => .inr (.inl locked)
  · next faulted =>
    rw [callsAfter, if_pos ⟨faulted, rfl⟩, withdrawQueued_ulc, mapRect_ulc]
    exact ⟨⟨_, _, rfl⟩, rfl⟩
  · next faulted => exact kept (mapRect_ulc ..) nofun fun _ => .inl faulted
  · next faulted => exact kept rfl nofun fun _ => .inl faulted
  · next faulted =>
    refine kept ?_ nofun fun _ => .inl faulted
    split
    · exact mapRect_ulc ..
    · rfl
  · next standby => exact kept rfl (fun h => nomatch h.2) fun _ => .inr (.inr standby)
  · next standby => exact kept rfl (fun h => nomatch h.2) fun _ => .inr (.inr standby)
  · next unlocked sound => exact kept (mapRect_ulc ..) (fun h => sound h.1) nofun
  · next unlocked sound awake => exact kept (mapRect_ulc ..) (fun h => sound h.1) nofun
  · next unlocked sound awake =>
    have same := mapRect_ulc k (fun r => { r with state := .standby }) s
    rw [callsAfter, if_neg fun h => sound h.1, wake_of_free (by rw [same, free]), same]
    split
    · next wakes =>
      rw [if_pos ⟨⟨sound, unlocked, awake⟩, rfl, wakes⟩, placeModuleCall_q1 (.inl rfl), same]
      exact ⟨same ▸ placeModuleCall_sameButQueues .., rfl⟩
    · next sleeps =>
      rw [if_neg fun h => sleeps h.2.2, same]
      exact ⟨⟨_, _, rfl⟩, rfl⟩
  · next unlocked sound => exact kept (mapRect_ulc ..) (fun h => sound h.1) nofun

/-! ## The answer at the Rectifier Supervisor (R35, R36) -/

section
variable (k : Fin 6) (a : RectifierAnswer) (s : State)

theorem takenAnswer_fed : (takenAnswer k a s).fed k = s.fed k := fed_congr rfl rfl k

/-- What no answer changes of the record is what its class is sorted and acts by (R35). -/
theorem rectifierAfter_takenAnswer (limit code : Nat) (c : AnswerClass) :
    rectifierAfter ((takenAnswer k a s).rect k) limit code c = rectifierAfter (s.rect k) limit code c := by
  rw [takenAnswer_rect]
  rfl

theorem callsAfter_takenAnswer (c : AnswerClass) : callsAfter k c (takenAnswer k a s) = callsAfter k c s := by
  unfold callsAfter
  simp only [takenAnswer_rect]
  rfl

/-- With the feed PRESENT the answer's class acts. -/
theorem rectifierAnswer_of_fed (fed : s.fed k = true) : rectifierAnswer k a s =
    rectifierClassActs k (a.cls (s.rect k).adminDisabled) (takenAnswer k a s) := by
  have admin : ((takenAnswer k a s).rect k).adminDisabled = (s.rect k).adminDisabled := by rw [takenAnswer_rect]; rfl
  rw [← admin]
  exact if_pos ((takenAnswer_fed k a s).trans fed)

/-- With the feed not PRESENT an ABSENT module alone is acted on (R36). -/
theorem rectifierAnswer_of_unfed (unfed : s.fed k = false) : rectifierAnswer k a s =
    if (s.rect k).state = .absent then mapRect k (fun r => { r with state := .inputLost, runTime := 0 }) (takenAnswer k a s)
    else takenAnswer k a s := by
  have state : ((takenAnswer k a s).rect k).state = (s.rect k).state := by rw [takenAnswer_rect]; rfl
  rw [← state]
  have still : ¬(takenAnswer k a s).fed k = true := by rw [takenAnswer_fed, unfed]; decide
  refine (if_neg still).trans ?_
  split
  · next absent => exact (if_pos absent).symm
  · next present => exact (if_neg present).symm

/-- A good answer turns the module to the state R35 and R36 give it. -/
theorem rectifierAnswer_turns : TurnedTo k
    (if s.fed k then rectifierAfter (s.rect k) s.cfg.retryLimit (min 16 a.derate) (a.cls (s.rect k).adminDisabled)
      else if (s.rect k).state = .absent then .inputLost else (s.rect k).state)
    (takenAnswer k a s) (rectifierAnswer k a s) := by
  have ok : CapacityOk (takenAnswer k a s) := recomputeCapacity_capacityOk _
  have record := takenAnswer_rect k a s
  split
  · next fed =>
    rw [rectifierAnswer_of_fed k a s fed]
    have turns := rectifierClassActs_turns k (a.cls (s.rect k).adminDisabled) ok
    rwa [rectifierAfter_takenAnswer, record] at turns
  · next unfed =>
    rw [rectifierAnswer_of_unfed k a s (Bool.eq_false_iff.2 unfed)]
    split
    · exact turnedTo_of_mapRect ok rfl rfl rfl rfl
    · exact turnedTo_self (by rw [record]; rfl)

/-- What a good answer makes of the calls, with no command in flight. -/
theorem rectifierAnswer_calls (free : s.ulc.transaction = none) : SameButQueues s.ulc (rectifierAnswer k a s).ulc ∧
    (rectifierAnswer k a s).ulc.q1 = if s.fed k then callsAfter k (a.cls (s.rect k).adminDisabled) s else s.ulc.q1 := by
  split
  · next fed =>
    rw [rectifierAnswer_of_fed k a s fed, ← callsAfter_takenAnswer k a s]
    exact rectifierClassActs_calls k _ (s := takenAnswer k a s) free
  · next unfed =>
    have same : (rectifierAnswer k a s).ulc = s.ulc := by
      rw [rectifierAnswer_of_unfed k a s (Bool.eq_false_iff.2 unfed)]
      split
      · exact mapRect_ulc ..
      · rfl
    exact ⟨⟨_, _, same⟩, congrArg Ulc.q1 same⟩

/-- An ON answer in FAULTED ends the retry (R39). -/
theorem rectifierAnswer_endsRetry (fed : s.fed k = true) (faulted : (s.rect k).state = .faulted)
    (on : a.cls (s.rect k).adminDisabled = .on) :
    ((rectifierAnswer k a s).rect k).retryPhase = none ∧ ((rectifierAnswer k a s).rect k).retryTimer = none := by
  have still : ((takenAnswer k a s).rect k).state = .faulted := by rw [takenAnswer_rect]; exact faulted
  have acts : rectifierClassActs k .on (takenAnswer k a s) =
      withdrawQueued (isRetryEnableFor k) (mapRect k (fun r => r.endRetry.run) (takenAnswer k a s)) := by
    simp only [rectifierClassActs, still]
  rw [rectifierAnswer_of_fed k a s fed, on, acts, State.rect, withdrawQueued_rsv]
  have record := mapRect_rect k (fun r => r.endRetry.run) (takenAnswer k a s)
  exact ⟨congrArg Rectifier.retryPhase record, congrArg Rectifier.retryTimer record⟩
end

/-- The calls after the answer, by the feed condition and the class. -/
theorem callsAfter_eq (k : Fin 6) (c : AnswerClass) (s : State) : (if s.fed k = true then callsAfter k c s else s.ulc.q1) =
    if s.fed k = true ∧ (s.rect k).state = .faulted ∧ c = .on then s.ulc.q1.filter fun r => !isRetryEnableFor k r
    else if s.fed k = true ∧ ((s.rect k).state ≠ .faulted ∧ (s.rect k).state ≠ .lockedOut ∧ (s.rect k).state ≠ .standby) ∧ c = .off ∧
        s.ulc.q1.length < 64 ∧ ∀ r ∈ s.ulc.q0 ++ s.ulc.q1, ¬(r.kind = .enable ∧ r.target = .rectifier k) then
      (s.ulc.q1.filter fun r => !isModuleCallFor k r) ++ [moduleCall k .enable false]
    else s.ulc.q1 := by
  cases s.fed k with
  | true => simp only [callsAfter, true_and, if_true]
  | false => simp only [Bool.false_eq_true, false_and, if_false]

/-- Settles O24: the polled answer is handed to the Rectifier Supervisor, where the feed condition and the answer's class decide. -/
theorem rectifierAnswered : Obligations.RectifierAnswered := by
  intro s k chars flags code derate polled
  obtain ⟨t, next, ⟨-, -, same⟩, link⟩ := exec_of_polled polled
  let a : RectifierAnswer := ⟨flags.getLsbD 0, flags.getLsbD 1, code, derate.toNat⟩
  let w := answeredPoll (.rectifier k) s
  have rsv : t.rsv = (rectifierAnswer k a w).rsv := same .rsv (by decide)
  have reads (j : Fin 6) : t.rect j = (rectifierAnswer k a w).rect j := by rw [State.rect, rsv]
  have taken : (takenAnswer k a w).rect k = contributed s.cfg k ((s.rect k).take a) := takenAnswer_rect k a w
  obtain ⟨others, state, derate', lastFault⟩ := rectifierAnswer_turns k a w
  obtain ⟨⟨q0, q1, ulc⟩, calls⟩ := rectifierAnswer_calls k a w rfl
  have line : t.ulc.line = .guarded := (congrArg Ulc.line link).trans (congrArg Ulc.line ulc)
  have transaction : t.ulc.transaction = none := (congrArg Ulc.transaction link).trans (congrArg Ulc.transaction ulc)
  refine ⟨t, next, line, transaction, ?_, ?_, fun j h => ?_, ?_, fun unfed => ?_, fun fed => ⟨?_, fun faulted sound on => ?_⟩⟩
  · rw [reads, derate', taken]
    rfl
  · rw [reads, lastFault, taken]
    rfl
  · rw [reads, others j h]
    exact takenAnswer_rect_of_ne a w h
  · exact ((congrArg Ulc.q1 link).trans calls).trans (callsAfter_eq k _ s)
  · rw [reads, state]
    exact if_neg (by rw [show w.fed k = s.fed k from rfl, unfed]; decide)
  · rw [reads, state]
    exact if_pos fed
  · have class_on : a.cls (w.rect k).adminDisabled = .on := by simp only [RectifierAnswer.cls, a, sound, on]; rfl
    rw [reads]
    exact rectifierAnswer_endsRetry k a w fed faulted class_on

end Sys2Proof.Laws
end

section
/-! PROOFS. The loss of input: what the loss of a phase does to the modules fed from it (R38), what a departure into BRIDGING does at
the sequencer and the Battery Monitor (R76, R77, R87, R94, R98), and the loss of the last PRESENT phase. -/
namespace Sys2Proof.Laws
open Sys2Proof Sys2Proof.Machine Sys2Proof.Safety

/-! ## An act for each entry of a list -/

/-- What the act for one entry of a list brings about holds after the list, where the acts for the others before it leave what it needs and
no act after it undoes it. -/
theorem forEach_hits {α : Type} {f : α → State → State} {P Q : State → Prop} {a : α} (hit : ∀ s, P s → Q (f a s))
    (pass : ∀ b s, b ≠ a → P s → P (f b s)) (keep : ∀ b s, Q s → Q (f b s)) {l : List α} (mem : a ∈ l) {s : State} (h : P s) :
    Q (s.forEach l f) := by
  have kept : ∀ (l : List α) (s : State), Q s → Q (s.forEach l f) := fun l => by
    induction l with
    | nil => exact fun _ h => h
    | cons b l ih => exact fun s h => ih _ (keep b s h)
  induction l generalizing s with
  | nil => exact absurd mem List.not_mem_nil
  | cons b l ih =>
    by_cases e : b = a
    · subst e
      exact kept l _ (hit s h)
    · exact ih ((List.mem_cons.1 mem).resolve_left fun h => e h.symm) (pass b s e h)

/-- Two acts that agree while something holds that the first keeps agree over a list. -/
theorem forEach_congr {α : Type} {f g : α → State → State} (P : State → Prop) :
    ∀ {l : List α} {s : State}, (∀ a ∈ l, ∀ s, P s → f a s = g a s ∧ P (g a s)) → P s → s.forEach l f = s.forEach l g
  | [], _, _, _ => rfl
  | a :: l, s, agree, h => by
    obtain ⟨same, still⟩ := agree a (List.mem_cons_self ..) s h
    rw [State.forEach_cons, State.forEach_cons, same]
    exact forEach_congr P (fun b hb => agree b (List.mem_cons_of_mem _ hb)) still

/-! ## The modules that lose their input (R38) -/

/-- A module that has lost its input, from a running state or STANDBY. -/
def LostInput (k : Fin 6) (s : State) : Prop :=
  (s.rect k).state = .inputLost ∧ (s.rect k).runTime = 0 ∧ (s.rect k).contribution = 0

/-- A module that a loss of its feed takes to INPUT_LOST (R38). -/
def TakesInput (k : Fin 6) (s : State) : Prop :=
  (s.rect k).state = .online ∨ (s.rect k).state = .derated ∨ (s.rect k).state = .standby

theorem inputLeft_of_takesInput {k : Fin 6} {s : State} (h : TakesInput k s) :
    inputLeft k s = mapRect k (fun r => { r with state := .inputLost, runTime := 0 }) s := by
  unfold inputLeft
  rcases h with e | e | e <;> simp only [e]

/-- The loss of a module's feed leaves every other record but its contribution, formed again. -/
theorem inputLeft_rect_of_ne {j k : Fin 6} (s : State) (h : j ≠ k) :
    (inputLeft k s).rect j = s.rect j ∨ (inputLeft k s).rect j = contributed s.cfg j (s.rect j) := by
  unfold inputLeft
  split
  · exact .inr (mapRect_rect_of_ne _ s h)
  · exact .inr (mapRect_rect_of_ne _ s h)
  · exact .inr (mapRect_rect_of_ne _ s h)
  · exact .inr (mapRect_rect_of_ne _ s h)
  · exact .inl rfl
  · exact .inl rfl
  · exact .inl rfl

theorem inputLeft_takes {k : Fin 6} {s : State} (h : TakesInput k s) : LostInput k (inputLeft k s) := by
  unfold LostInput
  rw [inputLeft_of_takesInput h, mapRect_rect]
  exact ⟨rfl, rfl, rfl⟩

/-- The loss of another module's feed leaves a module that is to lose its own. -/
theorem inputLeft_passes {j k : Fin 6} {s : State} (h : j ≠ k) (takes : TakesInput k s) : TakesInput k (inputLeft j s) := by
  have state : ((inputLeft j s).rect k).state = (s.rect k).state := by
    rcases inputLeft_rect_of_ne s h.symm with e | e
    · rw [e]
    · rw [e, contributed_state]
  unfold TakesInput
  rwa [state]

/-- A module that has lost its input keeps its record through every further loss. -/
theorem inputLeft_keeps (j k : Fin 6) (s : State) (lost : LostInput k s) : LostInput k (inputLeft j s) := by
  obtain ⟨state, runTime, contribution⟩ := lost
  by_cases e : k = j
  · subst e
    have same : inputLeft k s = s := by simp only [inputLeft, state]
    rw [same]
    exact ⟨state, runTime, contribution⟩
  · rcases inputLeft_rect_of_ne s e with e | e <;> rw [LostInput, e]
    · exact ⟨state, runTime, contribution⟩
    · exact ⟨state, runTime, by rw [contributed_contribution, state]; rfl⟩

/-- A phase that is not PRESENT acts as a loss on every module fed from it. -/
theorem phaseReported_of_left {p : Fin 3} {s : State} (left : (s.phase p).state ≠ .present) : phaseReported p s =
    s.forEach ((List.finRange 6).filter fun k => s.cfg.rectifierFeed[k] = p) inputLeft := by
  unfold phaseReported
  refine forEach_congr (fun t => t.acm = s.acm ∧ t.lvs = s.lvs) (fun k mem t ⟨acm, lvs⟩ => ⟨?_, ?_, ?_⟩) ⟨rfl, rfl⟩
  · have feed : s.cfg.rectifierFeed[k] = p := of_decide_eq_true (List.mem_filter.1 mem).2
    have unfed : s.fed k ≠ true := by
      unfold State.fed
      rw [feed]
      exact fun e => left (beq_iff_eq.1 e)
    exact if_neg (by rwa [fed_congr lvs acm])
  · exact ((inputLeft_acts k t).frame .acm (by decide) (by decide)).trans acm
  · exact (inputLeft_acts k t).lvs.trans lvs

/-- So it changes the rectifier records alone, and posts. -/
theorem phaseReported_left_acts {p : Fin 3} {s : State} (left : (s.phase p).state ≠ .present) : Acts [.rsv] s (phaseReported p s) := by
  rw [phaseReported_of_left left]
  exact .forEach inputLeft_acts _ s

/-- Every module fed from a lost phase that ran or stood by has lost its input (R38). -/
theorem phaseReported_loses {p : Fin 3} {s : State} (left : (s.phase p).state ≠ .present) {k : Fin 6}
    (feed : s.cfg.rectifierFeed[k] = p) (takes : TakesInput k s) : LostInput k (phaseReported p s) := by
  rw [phaseReported_of_left left]
  exact forEach_hits (fun _ => inputLeft_takes) (fun _ _ => inputLeft_passes) (inputLeft_keeps · k)
    (List.mem_filter.2 ⟨List.mem_finRange k, decide_eq_true feed⟩) takes

/-! ## The sequencer held (R94) -/

theorem hold_bridgeHold (prior : Option HoldReason) (r : HoldReason) (s : State) :
    (hold prior r s).seq.bridgeHold = s.seq.bridgeHold := by
  unfold hold
  dsimp only
  split <;> rfl

/-- The departure from GRID holds the sequencer, whatever it was doing (R127, R134). -/
theorem sequencerDeparture_bridgeHold (s : State) : (sequencerDeparture s).seq.bridgeHold = true := by
  unfold sequencerDeparture
  dsimp only
  split
  · exact hold_bridgeHold ..
  · exact hold_bridgeHold ..
  · exact hold_bridgeHold ..
  · exact hold_bridgeHold ..
  · rfl
  · rfl
  · rfl

/-! ## The Battery Monitor's report of BRIDGING (R76, R77, R87) -/

/-- A module's record once the depleted marking of BRIDGING has been made at it (R77). -/
def marked (qfloor : Nat) (b : Battery) : Battery :=
  if b.state = .online ∧ (b.q ≤ qfloor ∨ b.cutoff = true) then { b with state := .depleted } else b

/-- A marked record is not marked again. -/
theorem marked_marked (qfloor : Nat) (b : Battery) : marked qfloor (marked qfloor b) = marked qfloor b := by
  by_cases h : b.state = .online ∧ (b.q ≤ qfloor ∨ b.cutoff = true)
  · have depleted : marked qfloor b = { b with state := .depleted } := if_pos h
    rw [depleted]
    exact if_neg fun again => nomatch again.1
  · have same : marked qfloor b = b := if_neg h
    rw [same, same]

/-- The marking of a module in BRIDGING, by its reserve or its cutoff flag (R77). -/
theorem markDepleted_bmn {i : Fin 4} {s : State} (bridging : s.bmn.lastBridge = .bridging) :
    (markDepleted i s).bmn = (mapBatt i (marked (s.qfloor i)) s).bmn := by
  have turned (cause : BatteryCause) (h : (s.batt i).state = .online ∧ ((s.batt i).q ≤ s.qfloor i ∨ (s.batt i).cutoff = true)) :
      (turnBatt i .depleted cause s).bmn = (mapBatt i (marked (s.qfloor i)) s).bmn := by
    rw [turnBatt_bmn]
    simp only [mapBatt, State.mapBmn_bmn]
    rw [show marked (s.qfloor i) s.bmn.batts[i] = { s.bmn.batts[i] with state := .depleted } from if_pos h]
  have unmarked (h : ¬((s.batt i).state = .online ∧ ((s.batt i).q ≤ s.qfloor i ∨ (s.batt i).cutoff = true))) :
      s.bmn = (mapBatt i (marked (s.qfloor i)) s).bmn := by
    simp only [mapBatt, State.mapBmn_bmn]
    rw [show marked (s.qfloor i) s.bmn.batts[i] = s.bmn.batts[i] from if_neg h]
    exact congrArg (fun v => { s.bmn with batts := v }) (Vector.set_getElem_self i.isLt).symm
  unfold markDepleted
  split
  · next online =>
    split
    · next reserve => exact turned _ ⟨online.2, .inl reserve⟩
    · next above =>
      split
      · next cutoff => exact turned _ ⟨online.2, .inr cutoff⟩
      · next going => exact unmarked fun h => h.2.elim above going
  · next other => exact unmarked fun h => other ⟨bridging, h.1⟩

theorem markDepleted_qfloor (i j : Fin 4) (s : State) : (markDepleted i s).qfloor j = s.qfloor j := by
  simp only [State.qfloor, State.cfg, (markDepleted_acts i s).lvs]

/-- The marking of every module marks each in its turn. -/
theorem markAll_batt {s : State} (bridging : s.bmn.lastBridge = .bridging) (i : Fin 4) :
    (markAll s).batt i = marked (s.qfloor i) (s.batt i) := by
  have own (t : State) (h : t.bmn.lastBridge = .bridging) : (markDepleted i t).batt i = marked (t.qfloor i) (t.batt i) := by
    rw [State.batt, markDepleted_bmn h]
    exact mapBatt_batt i _ t
  have other (j : Fin 4) (t : State) (ne : j ≠ i) (h : t.bmn.lastBridge = .bridging) : (markDepleted j t).batt i = t.batt i := by
    rw [State.batt, markDepleted_bmn h]
    exact mapBatt_battsKeptBut j _ t i ne.symm
  have last (j : Fin 4) (t : State) (h : t.bmn.lastBridge = .bridging) : (markDepleted j t).bmn.lastBridge = .bridging := by
    rw [markDepleted_bmn h]
    exact h
  have done := forEach_hits (f := markDepleted) (a := i) (l := List.finRange 4) (s := s)
    (P := fun t => t.bmn.lastBridge = .bridging ∧ t.qfloor i = s.qfloor i ∧ t.batt i = s.batt i)
    (Q := fun t => t.bmn.lastBridge = .bridging ∧ t.qfloor i = s.qfloor i ∧ t.batt i = marked (s.qfloor i) (s.batt i))
    (fun t ⟨h, floor, batt⟩ => ⟨last i t h, (markDepleted_qfloor i i t).trans floor, by rw [own t h, floor, batt]⟩)
    (fun j t ne ⟨h, floor, batt⟩ => ⟨last j t h, (markDepleted_qfloor j i t).trans floor, (other j t ne h).trans batt⟩)
    (fun j t ⟨h, floor, batt⟩ => ⟨last j t h, (markDepleted_qfloor j i t).trans floor, by
      by_cases e : j = i
      · subst e
        rw [own t h, floor, batt, marked_marked]
      · rw [other j t e h, batt]⟩)
    (List.mem_finRange i) ⟨bridging, rfl, rfl⟩
  exact done.2.2

/-- The marking leaves the test context and the bridge state received. -/
theorem markAll_context {s : State} (bridging : s.bmn.lastBridge = .bridging) :
    (markAll s).bmn.test = s.bmn.test ∧ (markAll s).bmn.lastBridge = .bridging := by
  have each : ∀ (l : List (Fin 4)) (t : State), t.bmn.lastBridge = .bridging →
      (t.forEach l markDepleted).bmn.test = t.bmn.test ∧ (t.forEach l markDepleted).bmn.lastBridge = .bridging := by
    intro l
    induction l with
    | nil => exact fun t h => ⟨rfl, h⟩
    | cons i l ih =>
      intro t h
      have bmn := markDepleted_bmn (i := i) h
      obtain ⟨test, last⟩ := ih (markDepleted i t) ((congrArg Bmn.lastBridge bmn :).trans h)
      exact ⟨test.trans (congrArg Bmn.test bmn :), last⟩
  exact each _ s bridging

/-! ### The running test aborted (R87, R88) -/

/-- Withdrawing TEST_LOAD calls changes the queues alone: none of them is a POWER ON. -/
theorem withdrawTestCalls_eq (i : Fin 4) (s : State) : withdrawQueued (isTestCall i .testLoadOn) s = s.mapUlc fun u =>
    { u with q0 := u.q0.filter fun r => !isTestCall i .testLoadOn r, q1 := u.q1.filter fun r => !isTestCall i .testLoadOn r } :=
  withdrawQueued_of_no_powerOn fun r _ h => by
    simp only [isTestCall, Bool.and_eq_true, beq_iff_eq] at h
    rw [h.1]
    decide

/-- What the release after an abort leaves of the Battery Monitor besides the course of the test context. -/
structure Released (s t : State) : Prop where
  frame : changesOnly [.bmn, .ulc] s t
  batts : t.bmn.batts = s.bmn.batts
  pending : t.bmn.test.pending = s.bmn.test.pending
  lastBridge : t.bmn.lastBridge = s.bmn.lastBridge

theorem released_of_mapTest (f : TestContext → TestContext) (s : State) (pending : ∀ t, (f t).pending = t.pending) :
    Released s (mapTest f s) := ⟨changesOnly_up (mapTest_changesOnly f s), rfl, pending _, rfl⟩

theorem Released.trans {s t u : State} (h : Released s t) (k : Released t u) : Released s u :=
  ⟨changesOnly_trans h.frame k.frame, k.batts.trans h.batts, k.pending.trans h.pending, k.lastBridge.trans h.lastBridge⟩

theorem testIdle_released (s : State) : Released s (testIdle s) := released_of_mapTest _ s fun _ => rfl

theorem testClosing_released (s : State) : Released s (testClosing s) := released_of_mapTest _ s fun _ => rfl

theorem releaseLoad_released (i : Fin 4) (s : State) : Released s (releaseLoad i s) := by
  obtain ⟨frame, ⟨owed, bmn⟩, -⟩ := releaseLoad_frame i s
  exact ⟨frame, (congrArg Bmn.batts bmn :), (congrArg (·.test.pending) bmn :), (congrArg Bmn.lastBridge bmn :)⟩

theorem releaseAfterAbort_released (i : Fin 4) (phase : TestPhase) (s : State) : Released s (releaseAfterAbort i phase s) := by
  have closing := (releaseLoad_released i s).trans (testClosing_released _)
  unfold releaseAfterAbort
  split
  · split
    · rw [withdrawTestCalls_eq]
      exact Released.trans ⟨changesOnly_up (mapUlc_changesOnly ..), rfl, rfl, rfl⟩ (testIdle_released _)
    · split
      · exact testClosing_released s
      · exact testIdle_released s
  · exact closing
  · exact closing
  · split
    · exact testClosing_released s
    · exact closing
  · exact testIdle_released s
  · exact testIdle_released s
  · exact testIdle_released s
  · exact testIdle_released s

/-- What the abort of a running test leaves, its release done: the report's record and context. -/
theorem abortOnline_bridge {i : Fin 4} {s : State} (module : s.bmn.test.module = some i)
    (running : s.bmn.test.phase.running = true) : let t := abortOnline .bridge s
    t.batt i = { s.batt i with state := .online, latest := some (abortRecord .bridge) } ∧ battsKeptBut i s t ∧
      t.bmn.test.pending = none ∧ t.bmn.lastBridge = s.bmn.lastBridge ∧ t.seq = s.seq := by
  have abort : abortOnline .bridge s = releaseAfterAbort i s.bmn.test.phase (abortReported i .bridge .online .testEnd s) :=
    abortTest_of_running module running .bridge .online .testEnd
  obtain ⟨⟨-, -, frame⟩, batts, pending, last⟩ :=
    releaseAfterAbort_released i s.bmn.test.phase (abortReported i .bridge .online .testEnd s)
  have reads (j : Fin 4) : (abortOnline .bridge s).batt j = (abortReported i .bridge .online .testEnd s).batt j := by
    rw [State.batt, abort, batts]
  dsimp only
  refine ⟨(reads i).trans (abortReported_batt ..), fun j h => (reads j).trans (abortReported_battsKeptBut _ _ _ _ _ j h), ?_, ?_, ?_⟩
  · rw [abort, pending, abortReported_test]
  · rw [abort, last, abortReported_lastBridge]
  · rw [abort]
    exact (frame .seq (by decide)).trans (abortReported_acts ..).seq

/-- An abort for the bridge, or none where no test runs, keeps an ONLINE module ONLINE, with its charge and its cutoff flag. -/
theorem abortOnline_bridge_keeps (s : State) : let t := abortOnline .bridge s
    t.bmn.lastBridge = s.bmn.lastBridge ∧ t.seq = s.seq ∧ ∀ i, (s.batt i).state = .online →
      (t.batt i).state = .online ∧ (t.batt i).q = (s.batt i).q ∧ (t.batt i).cutoff = (s.batt i).cutoff := by
  by_cases runs : ∃ m, s.bmn.test.module = some m ∧ s.bmn.test.phase.running = true
  · obtain ⟨m, module, running⟩ := runs
    obtain ⟨record, others, -, last, seq⟩ := abortOnline_bridge module running
    refine ⟨last, seq, fun i online => ?_⟩
    by_cases e : i = m
    · subst e
      rw [record]
      exact ⟨rfl, rfl, rfl⟩
    · rw [others i e]
      exact ⟨online, rfl, rfl⟩
  · have same : abortOnline .bridge s = s := abortTest_of_not_running (fun m module =>
      Bool.eq_false_iff.2 fun running => runs ⟨m, module, running⟩) ..
    rw [same]
    exact ⟨rfl, rfl, fun i online => ⟨online, rfl, rfl⟩⟩

/-- The Battery Monitor with BRIDGING received. -/
def bridgingReceived (s : State) : State := s.mapBmn fun m => { m with lastBridge := .bridging }

theorem batteryBridgeReport_of_grid (s : State) : batteryBridgeReport .grid .bridging s =
    markAll (abortOnline .bridge (bridgingReceived s)) := rfl

/-- What the marking makes of an ONLINE module, whose charge and cutoff flag have stayed as they were. -/
theorem markAll_online {s : State} (bridging : s.bmn.lastBridge = .bridging) {i : Fin 4} (online : (s.batt i).state = .online) :
    ((markAll s).batt i).state = if (s.batt i).q ≤ s.qfloor i ∨ (s.batt i).cutoff = true then .depleted else .online := by
  rw [markAll_batt bridging, marked]
  split
  · next h => exact (if_pos h.2).symm
  · next h => exact online.trans (if_neg fun spent => h ⟨online, spent⟩).symm

/-- A report of BRIDGING: received, the sequencer left alone, and every ONLINE module at its reserve or with its cutoff flag marked
DEPLETED. -/
structure BridgingReported (s t : State) : Prop where
  lastBridge : t.bmn.lastBridge = .bridging
  seq : t.seq = s.seq
  marks : ∀ i, (s.batt i).state = .online → (t.batt i).state =
    if (s.batt i).q ≤ s.qfloor i ∨ (s.batt i).cutoff = true then .depleted else .online

theorem batteryBridgeReport_recovering (s : State) : BridgingReported s (batteryBridgeReport .recovering .bridging s) :=
  ⟨(markAll_context (s := bridgingReceived s) rfl).2, (markAll_acts _).seq, fun _ => markAll_online (s := bridgingReceived s) rfl⟩

theorem batteryBridgeReport_grid (s : State) : BridgingReported s (batteryBridgeReport .grid .bridging s) := by
  obtain ⟨last, seq, online⟩ := abortOnline_bridge_keeps (bridgingReceived s)
  have floor (i : Fin 4) : (abortOnline .bridge (bridgingReceived s)).qfloor i = s.qfloor i := by
    simp only [State.qfloor, State.cfg, (abortOnline_acts ..).lvs]
    rfl
  rw [batteryBridgeReport_of_grid]
  refine ⟨(markAll_context last).2, (markAll_acts _).seq.trans seq, fun i still => ?_⟩
  obtain ⟨on, q, cutoff⟩ := online i still
  rw [markAll_online last on, q, cutoff, floor]
  rfl

/-- The marking leaves a module's latest test. -/
theorem markAll_latest {s : State} (bridging : s.bmn.lastBridge = .bridging) (i : Fin 4) :
    ((markAll s).batt i).latest = (s.batt i).latest := by
  rw [markAll_batt bridging, marked]
  split <;> rfl

/-- The departure from GRID aborts the running test with cause BRIDGE (R87). -/
theorem batteryBridgeReport_aborts {s : State} {i : Fin 4} (module : s.bmn.test.module = some i)
    (running : s.bmn.test.phase.running = true) : let t := batteryBridgeReport .grid .bridging s
    (t.batt i).latest = some (abortRecord .bridge) ∧ t.bmn.test.pending = none := by
  obtain ⟨record, -, pending, last, -⟩ := abortOnline_bridge (s := bridgingReceived s) module running
  rw [batteryBridgeReport_of_grid]
  exact ⟨(markAll_latest last i).trans (congrArg Battery.latest record),
    (congrArg TestContext.pending (markAll_context last).1).trans pending⟩

/-! ## The departure into BRIDGING (R94, R98) -/

/-- A departure into BRIDGING, as every block but the Bridge Controller sees it. -/
structure EntersBridging (s t : State) : Prop where
  state : t.brc.state = .bridging
  acm : t.acm = s.acm
  rsv : t.rsv = s.rsv
  lastBridge : t.bmn.lastBridge = .bridging
  marks : ∀ i, (s.batt i).state = .online → (t.batt i).state =
    if (s.batt i).q ≤ s.qfloor i ∨ (s.batt i).cutoff = true then .depleted else .online

/-- The report to the Battery Monitor leaves the Bridge Controller. -/
theorem batteryBridgeReport_brc (old new : BridgeState) (s : State) : (batteryBridgeReport old new s).brc = s.brc :=
  (batteryBridgeReport_acts old new s).brc

/-- The departure from GRID, as the blocks that the Battery Monitor's report comes after leave it. -/
def departed (s : State) : State :=
  sequencerDeparture (loadManagerDeparture (s.mapBrc fun b =>
    { b with state := .bridging, elapsedMs := 0, shortfallReported := false, shedSettle := none }))

theorem departed_acts (s : State) : Acts [.brc, .ldm, .seq, .ulc] s (departed s) :=
  (sequencerDeparture_acts _).after ((loadManagerDeparture_acts _).after (mapBrc_acts _ s).up)

theorem departed_brc (s : State) : (departed s).brc =
    { s.brc with state := .bridging, elapsedMs := 0, shortfallReported := false, shedSettle := none } :=
  (sequencerDeparture_acts _).brc.trans (loadManagerDeparture_acts _).brc

/-- The Battery Monitor hears of the departure last, and it is then posted. -/
theorem enterBridging_eq (cause : BridgeCause) (s : State) : ∃ d, enterBridging cause s =
    post .bridgeState 0 d (batteryBridgeReport .grid .bridging (departed s)) := by
  unfold enterBridging departed postBridge
  exact ⟨_, rfl⟩

/-- The departure from GRID (R94). -/
theorem enterBridging_enters (cause : BridgeCause) (s : State) : let t := enterBridging cause s
    EntersBridging s t ∧ t.brc.elapsedMs = 0 ∧ t.brc.shedSettle = none ∧ t.seq.bridgeHold = true ∧
      ∀ i, s.bmn.test.module = some i → s.bmn.test.phase.running = true →
        (t.batt i).latest = some (abortRecord .bridge) ∧ t.bmn.test.pending = none := by
  have acm := (enterBridging_acts cause s).frame .acm (by decide) (by decide)
  have rsv := (enterBridging_acts cause s).rsv
  have held : (departed s).seq.bridgeHold = true := by
    unfold departed
    exact sequencerDeparture_bridgeHold _
  have brc := (batteryBridgeReport_brc .grid .bridging (departed s)).trans (departed_brc s)
  have batt (i : Fin 4) : (departed s).batt i = s.batt i := by rw [State.batt, (departed_acts s).bmn]
  have floor (i : Fin 4) : (departed s).qfloor i = s.qfloor i := by simp only [State.qfloor, State.cfg, (departed_acts s).lvs]
  obtain ⟨last, seq, marks⟩ := batteryBridgeReport_grid (departed s)
  obtain ⟨d, entered⟩ := enterBridging_eq cause s
  have aborts (i : Fin 4) (module : s.bmn.test.module = some i) (running : s.bmn.test.phase.running = true) :=
    batteryBridgeReport_aborts (s := departed s) (i := i) (by rwa [(departed_acts s).bmn]) (by rwa [(departed_acts s).bmn])
  rw [entered] at acm rsv ⊢
  generalize batteryBridgeReport .grid .bridging (departed s) = w at acm rsv brc last seq marks aborts ⊢
  refine ⟨⟨(congrArg Brc.state brc :), acm, rsv, last, fun i online => ?_⟩, (congrArg Brc.elapsedMs brc :),
    (congrArg Brc.shedSettle brc :), (congrArg Seq.bridgeHold seq).trans held, aborts⟩
  have marked := marks i ((congrArg Battery.state (batt i)).trans online)
  rwa [batt, floor] at marked

/-- The return from RECOVERING, as the Battery Monitor hears of it. -/
def returned (s : State) : State := s.mapBrc fun b => { b with state := .bridging, stable := none }

theorem returnToBridging_eq (cause : BridgeCause) (s : State) : ∃ d, returnToBridging cause s =
    post .bridgeState 0 d (batteryBridgeReport .recovering .bridging (returned s)) := by
  unfold returnToBridging returned postBridge
  exact ⟨_, rfl⟩

/-- The return from RECOVERING (R98). -/
theorem returnToBridging_enters (cause : BridgeCause) (s : State) : let t := returnToBridging cause s
    EntersBridging s t ∧ t.brc.elapsedMs = s.brc.elapsedMs ∧ t.brc.stable = none ∧ t.seq = s.seq := by
  have acm := (returnToBridging_acts cause s).frame .acm (by decide) (by decide)
  have rsv := (returnToBridging_acts cause s).rsv
  have brc := batteryBridgeReport_brc .recovering .bridging (returned s)
  obtain ⟨last, seq, marks⟩ := batteryBridgeReport_recovering (returned s)
  obtain ⟨d, entered⟩ := returnToBridging_eq cause s
  rw [entered] at acm rsv ⊢
  generalize batteryBridgeReport .recovering .bridging (returned s) = w at acm rsv brc last seq marks ⊢
  exact ⟨⟨(congrArg Brc.state brc :), acm, rsv, last, marks⟩, (congrArg Brc.elapsedMs brc :), (congrArg Brc.stable brc :), seq⟩

/-! ## The last PRESENT phase lost (R60, R61, R64) -/

/-- A PRESENT phase whose counter runs to the loss limit is LOST. -/
theorem lose_of_present {r : PhaseRecord} (present : r.state = .present) (limit : Nat) : (r.runTo limit).lose.state = .lost := by
  have still : (r.runTo limit).state = .present := present
  simp only [PhaseRecord.lose, still]

/-- The loss of a PRESENT phase is posted, reported to the Rectifier Supervisor, and judged for the shelf (R60, R63, R64). -/
theorem putPhase_of_loss {p : Fin 3} {s : State} {r : PhaseRecord} (present : (s.phase p).state = .present)
    (lost : r.state = .lost) : ∃ d, putPhase p r s =
      recomputeShelf (phaseReported p (post .phaseState (p + 1) d (mapPhase p (fun _ => r) s))) := by
  have changes : (s.phase p).state ≠ r.state := by rw [present, lost]; decide
  have leaves : ¬((s.phase p).state = .present) = (r.state = .present) := by rw [present, lost]; decide
  exact ⟨_, (if_neg changes).trans (congrArg recomputeShelf (if_neg leaves))⟩

/-- With no phase PRESENT the shelf has lost its input (R64). -/
theorem shelfOf_of_none {phases : Vector PhaseRecord 3} (none : ∀ o : Fin 3, phases[o].state ≠ .present) : shelfOf phases = .lost := by
  have empty : ((List.finRange 3).filter fun p => phases[p].state == .present) = [] :=
    List.filter_eq_nil_iff.2 fun p _ h => none p (beq_iff_eq.1 h)
  simp only [shelfOf, empty, List.length_nil]

/-- The shelf AC state turns from PARTIAL to LOST: held, and reported to the Bridge Controller; the Battery Monitor's own report matters
at a departure from GOOD alone (R87). -/
theorem recomputeShelf_of_lost {s : State} (partial_ : s.acm.shelf = .partialInput) (lost : shelfOf s.acm.phases = .lost) :
    ∃ d, recomputeShelf s =
      post .acState 0 d (bridgeAcReport .partialInput .lost (s.mapAcm fun a => { a with shelf := .lost })) := by
  have changes : s.acm.shelf ≠ shelfOf s.acm.phases := by rw [partial_, lost]; decide
  have heard (u : State) : batteryAcReport .partialInput .lost u = u := if_neg (by decide)
  obtain ⟨d, e⟩ : ∃ d, recomputeShelf s = post .acState 0 d (batteryAcReport s.acm.shelf (shelfOf s.acm.phases)
      (bridgeAcReport s.acm.shelf (shelfOf s.acm.phases) (s.mapAcm fun a => { a with shelf := shelfOf s.acm.phases }))) :=
    ⟨_, if_neg changes⟩
  rw [partial_, lost, heard] at e
  exact ⟨d, e⟩

theorem bridgeAcReport_of_grid {s : State} (grid : s.brc.state = .grid) :
    bridgeAcReport .partialInput .lost s = enterBridging .acLost s := by
  have unseen : ¬(AcState.partialInput = .lost ∧ AcState.lost ≠ .lost) := by decide
  simp only [bridgeAcReport, if_neg unseen, if_true, grid]

theorem bridgeAcReport_of_recovering {s : State} (recovering : s.brc.state = .recovering) :
    bridgeAcReport .partialInput .lost s = returnToBridging .acLost s := by
  have unseen : ¬(AcState.partialInput = .lost ∧ AcState.lost ≠ .lost) := by decide
  simp only [bridgeAcReport, if_neg unseen, if_true, recovering]

/-- The state the Bridge Controller meets when the loss of phase `p` is reported to it: the shelf has lost its input, the modules fed from
`p` have lost theirs, and the blocks whose turn comes later are as they were. -/
structure InputGone (p : Fin 3) (s v : State) : Prop where
  shelf : v.acm.shelf = .lost
  lvs : v.lvs = s.lvs
  bmn : v.bmn = s.bmn
  brc : v.brc = s.brc
  seq : v.seq = s.seq
  rects : ∀ k, s.cfg.rectifierFeed[k] = p → TakesInput k s → LostInput k v

/-- The report of a lost phase, the others not PRESENT either, and of the shelf AC state with it (R38, R64). -/
theorem inputGone_of_lost {p : Fin 3} {s u : State} (acts : Acts [.acm] s u) (left : (u.phase p).state ≠ .present) :
    InputGone p s ((phaseReported p u).mapAcm fun a => { a with shelf := .lost }) := by
  have reported := phaseReported_left_acts left
  refine ⟨rfl, reported.lvs.trans acts.lvs, reported.bmn.trans acts.bmn, reported.brc.trans acts.brc, reported.seq.trans acts.seq,
    fun k feed takes => ?_⟩
  have feed' : u.cfg.rectifierFeed[k] = p := by rwa [State.cfg, acts.lvs]
  have takes' : TakesInput k u := by rwa [TakesInput, State.rect, acts.rsv]
  exact phaseReported_loses left feed' takes'

/-- The expiry of the last PRESENT phase of a PARTIAL shelf comes to the Bridge Controller as the loss of the input (R61, R64, R93). -/
theorem lossLimitExpiry_of_last {p : Fin 3} {s : State} (present : (s.phase p).state = .present)
    (others : ∀ o, o ≠ p → (s.phase o).state ≠ .present) (shelf : s.acm.shelf = .partialInput) :
    ∃ d v, lossLimitExpiry p s = post .acState 0 d (bridgeAcReport .partialInput .lost v) ∧ InputGone p s v := by
  have lost := lose_of_present present s.cfg.lossLimit
  unfold lossLimitExpiry
  generalize ((s.phase p).runTo s.cfg.lossLimit).lose = r at lost ⊢
  obtain ⟨d, put⟩ := putPhase_of_loss present lost
  have acts : Acts [.acm] s (post .phaseState (p + 1) d (mapPhase p (fun _ => r) s)) :=
    (post_acts ..).after (mapPhase_acts p _ s)
  have own : (post .phaseState (p + 1) d (mapPhase p (fun _ => r) s)).phase p = r := Vector.getElem_set_self p.isLt
  have none (o : Fin 3) : ((post .phaseState (p + 1) d (mapPhase p (fun _ => r) s)).phase o).state ≠ .present := by
    by_cases e : o = p
    · rw [e, own, lost]
      decide
    · have kept : (post .phaseState (p + 1) d (mapPhase p (fun _ => r) s)).phase o = s.phase o :=
        Vector.getElem_set_ne p.isLt o.isLt fun h => e (Fin.ext h.symm)
      rw [kept]
      exact others o e
  have still : (post .phaseState (p + 1) d (mapPhase p (fun _ => r) s)).acm.shelf = .partialInput := shelf
  rw [put]
  generalize post .phaseState (p + 1) d (mapPhase p (fun _ => r) s) = u at acts none still ⊢
  have acm : (phaseReported p u).acm = u.acm := (phaseReported_left_acts (none p)).frame .acm (by decide) (by decide)
  obtain ⟨d', shelfLost⟩ := recomputeShelf_of_lost (s := phaseReported p u) (by rw [acm, still])
    (by rw [acm]; exact shelfOf_of_none none)
  exact ⟨d', _, shelfLost, inputGone_of_lost acts (none p)⟩

/-- What the Bridge Controller then makes of it, either way into BRIDGING. -/
theorem EntersBridging.lossOfInput {p : Fin 3} {s v t : State} (gone : InputGone p s v) (entered : EntersBridging v t) :
    t.acm.shelf = .lost ∧ t.brc.state = .bridging ∧ t.bmn.lastBridge = .bridging ∧
      (∀ i, (s.batt i).state = .online → (t.batt i).state =
        if (s.batt i).q ≤ s.qfloor i ∨ (s.batt i).cutoff = true then .depleted else .online) ∧
      ∀ k, s.cfg.rectifierFeed[k] = p → TakesInput k s → LostInput k t := by
  have batt (i : Fin 4) : v.batt i = s.batt i := by rw [State.batt, gone.bmn]
  have floor (i : Fin 4) : v.qfloor i = s.qfloor i := by simp only [State.qfloor, State.cfg, gone.lvs]
  refine ⟨(congrArg Acm.shelf entered.acm).trans gone.shelf, entered.state, entered.lastBridge, fun i online => ?_,
    fun k feed takes => ?_⟩
  · have marked := entered.marks i ((congrArg Battery.state (batt i)).trans online)
    rwa [batt, floor] at marked
  · have lost := gone.rects k feed takes
    rwa [LostInput, State.rect, ← entered.rsv] at lost

/-- Settles O22: the loss reaches the Bridge Controller with the modules' input gone (`lossLimitExpiry_of_last`), which departs from GRID
(`enterBridging_enters`) or returns from RECOVERING (`returnToBridging_enters`). -/
theorem lossOfInputBridges : Obligations.LossOfInputBridges := by
  intro p s present others shelf state
  obtain ⟨d, v, expiry, gone⟩ := lossLimitExpiry_of_last present others shelf
  have next : exec (.lossLimitExpiry p) s = .next (lossLimitExpiry p s) := rfl
  rw [next, expiry]
  rcases state with grid | recovering
  · obtain ⟨entered, elapsed, settle, held, aborts⟩ := enterBridging_enters .acLost v
    have reported := bridgeAcReport_of_grid ((congrArg Brc.state gone.brc).trans grid)
    rw [reported]
    generalize enterBridging .acLost v = t at entered elapsed settle held aborts ⊢
    obtain ⟨lost, bridging, last, marks, rects⟩ := entered.lossOfInput gone
    rw [gone.bmn] at aborts
    exact ⟨_, rfl, lost, bridging, last, fun _ => ⟨elapsed, settle, held, aborts⟩,
      fun recovering => (nomatch grid.symm.trans recovering), marks, rects⟩
  · obtain ⟨entered, elapsed, stable, seq⟩ := returnToBridging_enters .acLost v
    have reported := bridgeAcReport_of_recovering ((congrArg Brc.state gone.brc).trans recovering)
    rw [reported]
    generalize returnToBridging .acLost v = t at entered elapsed stable seq ⊢
    obtain ⟨lost, bridging, last, marks, rects⟩ := entered.lossOfInput gone
    rw [gone.brc] at elapsed
    exact ⟨_, rfl, lost, bridging, last, fun grid => (nomatch recovering.symm.trans grid),
      fun _ => ⟨elapsed, stable, seq.trans gone.seq⟩, marks, rects⟩

end Sys2Proof.Laws
end
